-- ==== Sys2Proof/Word.lean ====
section
/-! DEFINITION. The words of the machine: the 32-bit register word, the byte, the binary32 bit
pattern, and the three- and four-lane vectors of 00_scope.md rules R7, R9 and R13. Nothing here
computes; arithmetic stands in Machine/Float.lean. -/

namespace Sys2Proof

/-- A 32-bit register word (10_state.md R101); bit 0 is the least significant bit (R7). -/
abbrev Word := BitVec 32

/-- A byte of a block buffer (10_state.md R115). -/
abbrev Byte := BitVec 8

/-- A binary32 bit pattern (00_scope.md R9); any pattern is legal (10_state.md R116). -/
abbrev F32 := BitVec 32

/-- A binary64 bit pattern; only the epsilon of `precip` is one (40_vector_primitives.md R411). -/
abbrev F64 := BitVec 64

/-- The number of a pixel slot, 4*row + col in raster order (00_scope.md R14). -/
abbrev Slot := Fin 16

/-- A triple of f32 lanes (00_scope.md R13). -/
structure V3 where
  x : F32
  y : F32
  z : F32
  deriving DecidableEq, Repr

/-- A quadruple of f32 lanes (00_scope.md R13); lane x is at the lowest offset (10_state.md R116). -/
structure V4 where
  x : F32
  y : F32
  z : F32
  w : F32
  deriving DecidableEq, Repr

/-- One orientation of a single-colour table entry (41_single_color_tables.md R450): the endpoint
codes `start` and `stop` (the spec's `end`) and the absolute error, one ROM byte each (R120). -/
structure LutTriple where
  start : Byte
  stop  : Byte
  error : Byte
  deriving DecidableEq, Repr

/-- One entry of a single-colour table: orientations 0 and 1 (41_single_color_tables.md R450). -/
structure LutEntry where
  o0 : LutTriple
  o1 : LutTriple
  deriving DecidableEq, Repr

/-- A single-colour table: 256 entries, indexed by the 8-bit channel value (R450). -/
abbrev Lut := Vector LutEntry 256

/-- An 8-byte block, or one half of a 16-byte block (30_encoding.md R310 to R313). -/
abbrev Block8 := Vector Byte 8

/-- The 16 bytes of BLK_IN or BLK_OUT (10_state.md R115, R118). -/
abbrev Block16 := Vector Byte 16

end Sys2Proof
end

