-- ==== Sys2Proof/Config.lean ====
section
/-! DEFINITION. What an implementation fixes and what the spec leaves open: the named parameters of
00_scope.md R6, as plain data that `State` carries and no step changes, and the free values, as
constants without a body. -/

namespace Sys2Proof

/-- PARAM_RECIP_GUARD (00_scope.md R6, 92_eei_decisions.md D16). -/
inductive RecipGuard where
  | ieee
  | epsilon
  deriving DecidableEq, Repr

/-- PARAM_CF_TIE (00_scope.md R6, 92_eei_decisions.md D21). -/
inductive CfTie where
  | serial
  | any
  deriving DecidableEq, Repr

/-- PARAM_SC_TIE (00_scope.md R6, 92_eei_decisions.md D20). -/
inductive ScTie where
  | second
  | first
  deriving DecidableEq, Repr

/-- The implementation parameters of 00_scope.md R6. The spec makes each "a named argument of the
model"; `State.params` is that argument, so a statement about every state holds for every
implementation. The defaults stand in Machine/Tables.lean. -/
structure Params where
  maddFused  : Bool
  recipGuard : RecipGuard
  recipEps   : F64
  paIter     : Nat
  cfTie      : CfTie
  scTie      : ScTie
  lut5       : Lut
  lut6       : Lut
  deriving DecidableEq, Repr

namespace Config

/-- DESIGN CHOICE (log 4): the word that the n-th read of an output or diagnostic register while
STATUS.BUSY = 1 returns. 20_memory.md R206 and 70_reset_and_hazards.md R954: "any value". -/
opaque busyRead : Nat → Word

/-- DESIGN CHOICE (log 5): which of the equal-error partitions of a pass cluster-fit keeps when
PARAM_CF_TIE = any, by the number of earlier free choices and the pass. 44_cluster_fit.md R612. -/
opaque cfTiePick : Nat → Nat → Nat

/-- DESIGN CHOICE (log 6): `toint` of a NaN or an infinity, which 00_scope.md R11 never uses. -/
opaque toIntOpen : F32 → Nat

end Config

end Sys2Proof
end

