-- ==== Sys2Proof/Syntax.lean ====
section
/-! DEFINITION. The commands of the engine (30_encoding.md R300, R301): one constructor per row of
spec/opcode_table.json. Commands have no operand fields (R305); the flags CF, WA and A1 are the only
arguments, and each constructor has exactly those its opcode allows. Beside them stand the ways a
command word can fail to be one (R303, R304). -/

namespace Sys2Proof

inductive Instr where
  | nop
  | encDxt1 (cf wa a1 : Bool)
  | encDxt3 (cf wa : Bool)
  | encDxt5 (cf wa : Bool)
  | encAlphaExplicit
  | encAlphaInterp
  | decDxt1
  | decDxt3
  | decDxt5
  | decAlphaExplicit
  | decAlphaInterp
  | decColor4
  | vadd4
  | vsub4
  | vmul4
  | vmadd4
  | vnmsub4
  | vclamp4
  | vtrunc4
  | vrecip4
  | vadd3
  | vsub3
  | vmul3
  | vmadd3
  | vnmsub3
  | vclamp3
  | vtrunc3
  | vrecip3
  | vdot3
  | precip
  deriving DecidableEq, Repr

/-- Why a 32-bit word is no command (30_encoding.md R303, R304; 60_exceptions.md R900). -/
inductive DecodeError where
  /-- OPC is not in the opcode map: ERRCODE 1. -/
  | illegalOpcode
  /-- OPC is defined, but a bit the opcode does not allow is 1: ERRCODE 2. -/
  | reservedField
  deriving DecidableEq, Repr

/-- Why a string of bytes is no command. -/
inductive BytesError where
  /-- It is not the one 32-bit word every command is (30_encoding.md R306). -/
  | notOneWord
  | notCommand (why : DecodeError)
  deriving DecidableEq, Repr

end Sys2Proof
end

