-- ==== Sys2Proof/WellFormed.lean ====
section
/-! DEFINITION. The checks on what stands outside the command word. A term of `Instr` needs none: a
command has no operand field (30_encoding.md R305) and each constructor holds only the flags its
opcode allows (R301), so every term is well formed and the ill-formed WORDS are refused by the
decoder (R303, R304). What can be ill formed is a host access (20_memory.md R201) and an
implementation's choice of parameters (00_scope.md R6, 41_single_color_tables.md R450). -/

namespace Sys2Proof.WellFormed

/-- 20_memory.md R201: the only defined host access is a 32-bit one at an aligned offset of the
window. -/
def access (off size : Nat) : Bool :=
  size == 4 && off % 4 == 0 && decide (off < 0x2000)

/-- 00_scope.md R6: PARAM_RECIP_EPS is a positive (finite) binary64. -/
def recipEps (e : F64) : Bool :=
  decide (0 < e.toNat) && decide (e.toNat < 0x7FF0000000000000)

/-- 41_single_color_tables.md R450: the endpoint codes of a table are below `limit` (32 or 64). -/
def lut (limit : Nat) (t : Lut) : Bool :=
  t.toList.all fun e =>
    decide (e.o0.start.toNat < limit) && decide (e.o0.stop.toNat < limit) &&
    (decide (e.o1.start.toNat < limit) && decide (e.o1.stop.toNat < limit))

/-- 00_scope.md R6: a choice of parameters that lies in the stated domains. -/
def params (p : Params) : Bool :=
  recipEps p.recipEps && lut 32 p.lut5 && lut 64 p.lut6

end Sys2Proof.WellFormed
end

