-- ==== Sys2Proof/Decode.lean ====
section
/-! DEFINITION. The decoder of command words (30_encoding.md R300 to R304), total on any bytes and
rejecting by name, and after it the encoder, written from the same table. -/

namespace Sys2Proof

/-- 30_encoding.md R301: the opcode map. `cf`, `wa` and `a1` are the flag bits of the word; an opcode
that does not allow a flag drops it here, and `decodeWord` has the mask check refuse it. -/
def instrOf (opc : Nat) (cf wa a1 : Bool) : Option Instr :=
  match opc with
  | 0x00 => some .nop
  | 0x01 => some (.encDxt1 cf wa a1)
  | 0x02 => some (.encDxt3 cf wa)
  | 0x03 => some (.encDxt5 cf wa)
  | 0x04 => some .encAlphaExplicit
  | 0x05 => some .encAlphaInterp
  | 0x08 => some .decDxt1
  | 0x09 => some .decDxt3
  | 0x0A => some .decDxt5
  | 0x0B => some .decAlphaExplicit
  | 0x0C => some .decAlphaInterp
  | 0x0D => some .decColor4
  | 0x20 => some .vadd4
  | 0x21 => some .vsub4
  | 0x22 => some .vmul4
  | 0x23 => some .vmadd4
  | 0x24 => some .vnmsub4
  | 0x25 => some .vclamp4
  | 0x26 => some .vtrunc4
  | 0x27 => some .vrecip4
  | 0x30 => some .vadd3
  | 0x31 => some .vsub3
  | 0x32 => some .vmul3
  | 0x33 => some .vmadd3
  | 0x34 => some .vnmsub3
  | 0x35 => some .vclamp3
  | 0x36 => some .vtrunc3
  | 0x37 => some .vrecip3
  | 0x38 => some .vdot3
  | 0x39 => some .precip
  | _ => none

/-- 30_encoding.md R302: the mask of a mnemonic, the bits its word does not choose. -/
def maskOf : Instr → Word
  | .encDxt1 _ _ _ => 0xFFFFF8FF
  | .encDxt3 _ _ => 0xFFFFFCFF
  | .encDxt5 _ _ => 0xFFFFFCFF
  | _ => 0xFFFFFFFF

/-- The OPC field, bits 7:0 (30_encoding.md R300). -/
def opcField (w : Word) : Byte := w.extractLsb' 0 8

/-- 30_encoding.md R302 to R304 and the test order of 60_exceptions.md R901: an unlisted OPC is
illegal whatever the other bits hold, then `w & mask` must equal the opcode. -/
def decodeWord (w : Word) : Except DecodeError Instr :=
  match instrOf (opcField w).toNat (w.getLsbD 8) (w.getLsbD 9) (w.getLsbD 10) with
  | none => .error .illegalOpcode
  | some i =>
    if w &&& maskOf i = (opcField w).setWidth 32 then .ok i else .error .reservedField

/-- 20_memory.md R200: the 32-bit little-endian word of four bytes. -/
def wordOfBytes (b0 b1 b2 b3 : Byte) : Word := b3 ++ b2 ++ b1 ++ b0

/-- Byte k of a register word (20_memory.md R200). -/
def byteOfWord (w : Word) (k : Nat) : Byte := w.extractLsb' (8 * k) 8

/-- The decoder on bytes in memory order: a command is exactly one 32-bit word (30_encoding.md
R306). -/
def decodeBytes : List Byte → Except BytesError Instr
  | [b0, b1, b2, b3] => (decodeWord (wordOfBytes b0 b1 b2 b3)).mapError .notCommand
  | _ => .error .notOneWord

/-- The decoder on a row of the opcode table: the instruction whose low `nbits` bits are those of `w`
and whose other bits are 0, laid out as four little-endian bytes (20_memory.md R200). -/
def decodeTableWord (nbits w : Nat) : Option Instr :=
  let word : Word := BitVec.ofNat 32 (w % 2 ^ nbits)
  match decodeBytes [byteOfWord word 0, byteOfWord word 1, byteOfWord word 2, byteOfWord word 3] with
  | .ok i => some i
  | .error _ => none

/-- 30_encoding.md R301: the OPC value of each mnemonic. -/
def opcodeOf : Instr → Byte
  | .nop => 0x00
  | .encDxt1 _ _ _ => 0x01
  | .encDxt3 _ _ => 0x02
  | .encDxt5 _ _ => 0x03
  | .encAlphaExplicit => 0x04
  | .encAlphaInterp => 0x05
  | .decDxt1 => 0x08
  | .decDxt3 => 0x09
  | .decDxt5 => 0x0A
  | .decAlphaExplicit => 0x0B
  | .decAlphaInterp => 0x0C
  | .decColor4 => 0x0D
  | .vadd4 => 0x20
  | .vsub4 => 0x21
  | .vmul4 => 0x22
  | .vmadd4 => 0x23
  | .vnmsub4 => 0x24
  | .vclamp4 => 0x25
  | .vtrunc4 => 0x26
  | .vrecip4 => 0x27
  | .vadd3 => 0x30
  | .vsub3 => 0x31
  | .vmul3 => 0x32
  | .vmadd3 => 0x33
  | .vnmsub3 => 0x34
  | .vclamp3 => 0x35
  | .vtrunc3 => 0x36
  | .vrecip3 => 0x37
  | .vdot3 => 0x38
  | .precip => 0x39

/-- The fields of the command word of 30_encoding.md R300: OPC 7:0, CF 8, WA 9, A1 10, the rest 0. -/
def commandWord (opc : Byte) (cf wa a1 : Bool) : Word :=
  (0 : BitVec 21) ++ BitVec.ofBool a1 ++ BitVec.ofBool wa ++ BitVec.ofBool cf ++ opc

/-- The command word of an instruction (30_encoding.md R300, R301); one word each (R306). -/
def encode (i : Instr) : Word :=
  match i with
  | .encDxt1 cf wa a1 => commandWord (opcodeOf i) cf wa a1
  | .encDxt3 cf wa => commandWord (opcodeOf i) cf wa false
  | .encDxt5 cf wa => commandWord (opcodeOf i) cf wa false
  | _ => commandWord (opcodeOf i) false false false

end Sys2Proof
end

