-- ==== Sys2Proof/Machine/Float.lean ====
section
/-! DEFINITION. Scalar floating point (00_scope.md R9 to R12, 40_vector_primitives.md R402 to R412).
Every finite binary32 is a whole number of units of 2^-149, its smallest subnormal, so each operation
computes its exact result as a ratio of naturals in that unit and `roundMag` rounds it once, to
nearest with ties to even. Subnormals are kept, no flag is recorded (R9). -/

namespace Sys2Proof.Machine

/-- A binary interchange format, as `roundMag` needs it: the number of fraction bits, and the
all-ones exponent field of infinities and NaNs. -/
structure FloatFormat where
  frac   : Nat
  expMax : Nat
  deriving DecidableEq, Repr

/-- binary32 (00_scope.md R9). -/
def binary32 : FloatFormat := ⟨23, 255⟩

/-- binary64, for `precip` alone (40_vector_primitives.md R411). -/
def binary64 : FloatFormat := ⟨52, 2047⟩

/-- The magnitude pattern (sign bit off) of infinity; NaNs lie above it. -/
def FloatFormat.inf (f : FloatFormat) : Nat := f.expMax * 2 ^ f.frac

/-- The value of a finite magnitude pattern in units of the format's smallest subnormal. -/
def unitsOf (f : FloatFormat) (mag : Nat) : Nat :=
  let e := mag >>> f.frac
  let m := mag % 2 ^ f.frac
  if e = 0 then m else (m + 2 ^ f.frac) <<< (e - 1)

/-- `num / den` rounded to the nearest integer, ties to even. -/
def roundEven (num den : Nat) : Nat :=
  let q := num / den
  let r := num % den
  if den < 2 * r ∨ (2 * r = den ∧ q % 2 = 1) then q + 1 else q

/-- The magnitude pattern nearest to `num / den` units, ties to even; infinity past the largest
finite value (00_scope.md R9). The pattern of r * 2^shift units is shift * 2^frac + r, subnormals
and the carry into the next binade included. -/
def roundMag (f : FloatFormat) (num den : Nat) : Nat :=
  let shift := (num / den).log2 - f.frac
  min (shift * 2 ^ f.frac + roundEven num (den <<< shift)) f.inf

/-! ## Patterns and classes -/

/-- The canonical NaN (40_vector_primitives.md R409). -/
def qNaN : F32 := 0x7FC00000

def fzero : F32 := 0x00000000
def fone : F32 := 0x3F800000

/-- The sign bit. -/
def fsign (x : F32) : Bool := decide (2 ^ 31 ≤ x.toNat)

/-- The pattern without its sign bit. -/
def fmag (x : F32) : Nat := x.toNat % 2 ^ 31

def isNaN (x : F32) : Bool := decide (binary32.inf < fmag x)
def isInf (x : F32) : Bool := fmag x == binary32.inf
def isZero (x : F32) : Bool := fmag x == 0

/-- The pattern of a sign and a magnitude. -/
def fpack (neg : Bool) (mag : Nat) : F32 :=
  BitVec.ofNat 32 (if neg then 2 ^ 31 + mag else mag)

def finf (neg : Bool) : F32 := fpack neg binary32.inf

/-- The magnitude of a finite pattern in units of 2^-149. -/
def funits (x : F32) : Nat := unitsOf binary32 (fmag x)

/-- The signed value of a finite pattern in units of 2^-149. -/
def fvalue (x : F32) : Int := if fsign x then -(funits x : Int) else funits x

/-- The other sign; a NaN stays a NaN. -/
def fneg (x : F32) : F32 := x ^^^ 0x80000000

/-! ## The five operations of 00_scope.md R9; a NaN result is canonical (R409) -/

/-- `num / den` units with the sign of the exact result. -/
def fround (neg : Bool) (num den : Nat) : F32 := fpack neg (roundMag binary32 num den)

/-- An exact integer number of `1 / den` units, rounded once. An exact zero is -0 only when both
terms were negative. -/
def froundSum (bothNeg : Bool) (z : Int) (den : Nat) : F32 :=
  if z = 0 then fpack bothNeg 0 else fround (decide (z < 0)) z.natAbs den

def fadd (a b : F32) : F32 :=
  if isNaN a || isNaN b then qNaN
  else if isInf a then (if isInf b && fsign a != fsign b then qNaN else a)
  else if isInf b then b
  else froundSum (fsign a && fsign b) (fvalue a + fvalue b) 1

def fsub (a b : F32) : F32 := fadd a (fneg b)

def fmul (a b : F32) : F32 :=
  let neg := fsign a != fsign b
  if isNaN a || isNaN b then qNaN
  else if isInf a || isInf b then (if isZero a || isZero b then qNaN else finf neg)
  else fround neg (funits a * funits b) (2 ^ 149)

def fdiv (a b : F32) : F32 :=
  let neg := fsign a != fsign b
  if isNaN a || isNaN b then qNaN
  else if isInf a then (if isInf b then qNaN else finf neg)
  else if isInf b then fpack neg 0
  else if isZero b then (if isZero a then qNaN else finf neg)
  else fround neg (funits a * 2 ^ 149) (funits b)

/-- The integer square root, one result bit a round from bit `fuel - 1` down. -/
def isqrtFrom (n : Nat) : Nat → Nat → Nat
  | 0, r => r
  | k + 1, r => isqrtFrom n k (if (r + 2 ^ k) * (r + 2 ^ k) ≤ n then r + 2 ^ k else r)

/-- The largest natural whose square is at most `n`. -/
def isqrt (n : Nat) : Nat := isqrtFrom n (n.log2 / 2 + 1) 0

/-- The root of u units is the root of u * 2^149, in units; it has at least 75 bits, so a half
unit added when the root is inexact stands for the rest in rounding to 24 bits. -/
def fsqrt (a : F32) : F32 :=
  if isNaN a then qNaN
  else if isZero a then a
  else if fsign a then qNaN
  else if isInf a then a
  else
    let n := funits a * 2 ^ 149
    let r := isqrt n
    fround false (2 * r + (if r * r = n then 0 else 1)) 2

/-- a * b + c computed exactly and rounded once (40_vector_primitives.md R404, fused form); the signs of
zeros and the invalid cases are IEEE-754's fusedMultiplyAdd (DEDUCED, log 8). -/
def ffma (a b c : F32) : F32 :=
  let neg := fsign a != fsign b
  if isNaN a || isNaN b || isNaN c then qNaN
  else if isInf a || isInf b then
    (if isZero a || isZero b || (isInf c && fsign c != neg) then qNaN else finf neg)
  else if isInf c then c
  else froundSum (neg && fsign c) (fvalue a * fvalue b + fvalue c * (2 ^ 149 : Nat)) (2 ^ 149)

/-! ## Comparisons (00_scope.md R10) -/

/-- The order of the non-NaN patterns; +0 and -0 have one key. -/
def fkey (x : F32) : Int := if fsign x then -(fmag x : Int) else fmag x

def flt (a b : F32) : Bool := !isNaN a && !isNaN b && decide (fkey a < fkey b)
def fgt (a b : F32) : Bool := flt b a
def feq (a b : F32) : Bool := !isNaN a && !isNaN b && fkey a == fkey b

/-! ## Conversions (00_scope.md R11) -/

/-- `f32(n)`; exact for n <= 2^24. -/
def f32OfNat (n : Nat) : F32 := fround false (n * 2 ^ 149) 1

/-- `toint(x)`: truncation toward zero. R11 uses it on finite values only; on a NaN or an infinity
its value is free (DESIGN CHOICE, log 6). -/
def toInt (x : F32) : Int :=
  if isNaN x || isInf x then (Config.toIntOpen x : Int)
  else
    let t : Int := (funits x / 2 ^ 149 : Nat)
    if fsign x then -t else t

/-! ## Selections and exact functions (40_vector_primitives.md R403, R406, R407) -/

/-- R403: one operand's pattern unchanged. -/
def fmax (p q : F32) : F32 := if fgt p q then p else q

/-- R403. -/
def fmin (p q : F32) : F32 := if flt p q then p else q

/-- R406: `fmin(1.0, fmax(0.0, x))`, in this operand order. -/
def clamp01 (x : F32) : F32 := fmin fone (fmax fzero x)

/-- R407: toward zero, exact, the sign kept; ±0, ±inf and NaN unchanged. -/
def ftrunc (x : F32) : F32 :=
  if isNaN x || isInf x || isZero x then x
  else fround (fsign x) (funits x / 2 ^ 149 * 2 ^ 149) 1

/-- R408: `fdiv(1.0, x)`, no guard. -/
def recip (x : F32) : F32 := fdiv fone x

/-- R404: two roundings, or one when PARAM_MADD_FUSED. -/
def fmadd (fused : Bool) (a b c : F32) : F32 :=
  if fused then ffma a b c else fadd (fmul a b) c

/-- R405: `c - a*b`, two roundings, or one when PARAM_MADD_FUSED, as (-a)*b + c (DEDUCED, log 9). -/
def fnmsub (fused : Bool) (a b c : F32) : F32 :=
  if fused then ffma (fneg a) b c else fsub c (fmul a b)

/-! ## The epsilon-floored reciprocal (40_vector_primitives.md R411) -/

/-- The binary64 magnitude pattern of a binary32 one; exact. -/
def widenMag (mag : Nat) : Nat :=
  if mag < binary32.inf then roundMag binary64 (unitsOf binary32 mag * 2 ^ 925) 1
  else if mag = binary32.inf then binary64.inf
  else binary64.inf + 1

/-- The binary32 magnitude pattern nearest to a binary64 one (`round_f32`). -/
def narrowMag (mag : Nat) : Nat :=
  if mag < binary64.inf then roundMag binary32 (unitsOf binary64 mag) (2 ^ 925)
  else if mag = binary64.inf then binary32.inf
  else fmag qNaN

/-- `1.0 / x` in binary64, on the magnitude pattern of x. -/
def recipMag64 (mag : Nat) : Nat :=
  if mag = 0 then binary64.inf
  else if mag < binary64.inf then roundMag binary64 (2 ^ 2148) (unitsOf binary64 mag)
  else if mag = binary64.inf then 0
  else mag

/-- R411 with PARAM_RECIP_EPS = `eps`, a positive binary64. `sign * x >= eps` compares magnitude
patterns, which order the non-negative binary64 values; a NaN x (its pattern above infinity) or an
x of zero fails it and takes the positive floor (DEDUCED, log 16). -/
def precip (eps : F64) (x : F32) : F32 :=
  let neg := flt x fzero
  let mag := widenMag (fmag x)
  if eps.toNat ≤ mag ∧ mag ≤ binary64.inf then fpack neg (narrowMag (recipMag64 mag))
  else fpack neg (narrowMag (recipMag64 eps.toNat))

/-- R412: the reciprocal of the cluster-fit solve. -/
def rcpCf (p : Params) (x : F32) : F32 :=
  match p.recipGuard with
  | .ieee => recip x
  | .epsilon => precip p.recipEps x

/-! ## Named constants (00_scope.md R12, by their bit patterns) -/

def cOneThird : F32 := 0x3EAAAAAB
def cTwoThirds : F32 := 0x3F2AAAAB
def cOneNinth : F32 := 0x3DE38E39
def cFourNinths : F32 := 0x3EE38E39
def cTwoNinths : F32 := 0x3E638E39
def cRcp31 : F32 := 0x3D042108
def cRcp63 : F32 := 0x3C820821
def cHalf : F32 := 0x3F000000
def cTwo : F32 := 0x40000000
def cBig : F32 := 0x7CF0BDC2
def cFltEps : F32 := 0x34000000
def c31 : F32 := 0x41F80000
def c63 : F32 := 0x427C0000
def c255 : F32 := 0x437F0000
def c256 : F32 := 0x43800000

end Sys2Proof.Machine
end

