-- ==== Sys2Proof/Machine/Tables.lean ====
section
/-! DEFINITION. The single-colour lookup tables (41_single_color_tables.md R450 to R455, R466): their
contents, the generator that R454 gives for them, and the default parameters of 00_scope.md R6. -/

namespace Sys2Proof.Machine

/-- One table entry from a row of R466: start, end and error of orientation 0, then of
orientation 1. -/
def row (s0 e0 r0 s1 e1 r1 : Nat) : LutEntry :=
  ⟨⟨BitVec.ofNat 8 s0, BitVec.ofNat 8 e0, BitVec.ofNat 8 r0⟩,
   ⟨BitVec.ofNat 8 s1, BitVec.ofNat 8 e1, BitVec.ofNat 8 r1⟩⟩

/-- Entries 0 to 63 of LUT5 (R466). -/
def lut5Part0 : Vector LutEntry 64 :=
  #v[row 0 0 0 0 0 0, row 0 0 1 0 1 1, row 0 0 2 0 1 0, row 0 0 3 0 1 1,
    row 0 0 4 0 2 1, row 1 0 3 0 2 0, row 1 0 2 0 2 1, row 1 0 1 0 3 1,
    row 1 0 0 0 3 0, row 1 0 1 1 2 1, row 1 0 2 1 2 0, row 1 0 3 0 4 0,
    row 1 0 4 0 5 1, row 2 0 3 0 5 0, row 2 0 2 0 5 1, row 2 0 1 0 6 1,
    row 2 0 0 0 6 0, row 2 0 1 2 3 1, row 2 0 2 2 3 0, row 2 0 3 0 7 0,
    row 2 0 4 1 6 1, row 3 0 3 1 6 0, row 3 0 2 0 8 0, row 3 0 1 0 9 1,
    row 3 0 0 0 9 0, row 3 0 1 0 9 1, row 3 0 2 0 10 1, row 3 0 3 0 10 0,
    row 3 0 4 2 7 1, row 4 0 4 2 7 0, row 4 0 3 0 11 0, row 4 0 2 1 10 1,
    row 4 0 1 1 10 0, row 4 0 0 0 12 0, row 4 0 1 0 13 1, row 4 0 2 0 13 0,
    row 4 0 3 0 13 1, row 4 0 4 0 14 1, row 5 0 3 0 14 0, row 5 0 2 2 11 1,
    row 5 0 1 2 11 0, row 5 0 0 0 15 0, row 5 0 1 1 14 1, row 5 0 2 1 14 0,
    row 5 0 3 0 16 0, row 5 0 4 0 17 1, row 6 0 3 0 17 0, row 6 0 2 0 17 1,
    row 6 0 1 0 18 1, row 6 0 0 0 18 0, row 6 0 1 2 15 1, row 6 0 2 2 15 0,
    row 6 0 3 0 19 0, row 6 0 4 1 18 1, row 7 0 3 1 18 0, row 7 0 2 0 20 0,
    row 7 0 1 0 21 1, row 7 0 0 0 21 0, row 7 0 1 0 21 1, row 7 0 2 0 22 1,
    row 7 0 3 0 22 0, row 7 0 4 2 19 1, row 8 0 4 2 19 0, row 8 0 3 0 23 0]

/-- Entries 64 to 127 of LUT5 (R466). -/
def lut5Part1 : Vector LutEntry 64 :=
  #v[row 8 0 2 1 22 1, row 8 0 1 1 22 0, row 8 0 0 0 24 0, row 8 0 1 0 25 1,
    row 8 0 2 0 25 0, row 8 0 3 0 25 1, row 8 0 4 0 26 1, row 9 0 3 0 26 0,
    row 9 0 2 2 23 1, row 9 0 1 2 23 0, row 9 0 0 0 27 0, row 9 0 1 1 26 1,
    row 9 0 2 1 26 0, row 9 0 3 0 28 0, row 9 0 4 0 29 1, row 10 0 3 0 29 0,
    row 10 0 2 0 29 1, row 10 0 1 0 30 1, row 10 0 0 0 30 0, row 10 0 1 2 27 1,
    row 10 0 2 2 27 0, row 10 0 3 0 31 0, row 10 0 4 1 30 1, row 11 0 3 1 30 0,
    row 11 0 2 4 24 0, row 11 0 1 1 31 1, row 11 0 0 1 31 0, row 11 0 1 1 31 1,
    row 11 0 2 2 30 1, row 11 0 3 2 30 0, row 11 0 4 2 31 1, row 12 0 4 2 31 0,
    row 12 0 3 4 27 0, row 12 0 2 3 30 1, row 12 0 1 3 30 0, row 12 0 0 4 28 0,
    row 12 0 1 3 31 1, row 12 0 2 3 31 0, row 12 0 3 3 31 1, row 12 0 4 4 30 1,
    row 13 0 3 4 30 0, row 13 0 2 6 27 1, row 13 0 1 6 27 0, row 13 0 0 4 31 0,
    row 13 0 1 5 30 1, row 13 0 2 5 30 0, row 13 0 3 8 24 0, row 13 0 4 5 31 1,
    row 14 0 3 5 31 0, row 14 0 2 5 31 1, row 14 0 1 6 30 1, row 14 0 0 6 30 0,
    row 14 0 1 6 31 1, row 14 0 2 6 31 0, row 14 0 3 8 27 0, row 14 0 4 7 30 1,
    row 15 0 3 7 30 0, row 15 0 2 8 28 0, row 15 0 1 7 31 1, row 15 0 0 7 31 0,
    row 15 0 1 7 31 1, row 15 0 2 8 30 1, row 15 0 3 8 30 0, row 15 0 4 10 27 1]

/-- Entries 128 to 191 of LUT5 (R466). -/
def lut5Part2 : Vector LutEntry 64 :=
  #v[row 16 0 4 10 27 0, row 16 0 3 8 31 0, row 16 0 2 9 30 1, row 16 0 1 9 30 0,
    row 16 0 0 12 24 0, row 16 0 1 9 31 1, row 16 0 2 9 31 0, row 16 0 3 9 31 1,
    row 16 0 4 10 30 1, row 17 0 3 10 30 0, row 17 0 2 10 31 1, row 17 0 1 10 31 0,
    row 17 0 0 12 27 0, row 17 0 1 11 30 1, row 17 0 2 11 30 0, row 17 0 3 12 28 0,
    row 17 0 4 11 31 1, row 18 0 3 11 31 0, row 18 0 2 11 31 1, row 18 0 1 12 30 1,
    row 18 0 0 12 30 0, row 18 0 1 14 27 1, row 18 0 2 14 27 0, row 18 0 3 12 31 0,
    row 18 0 4 13 30 1, row 19 0 3 13 30 0, row 19 0 2 16 24 0, row 19 0 1 13 31 1,
    row 19 0 0 13 31 0, row 19 0 1 13 31 1, row 19 0 2 14 30 1, row 19 0 3 14 30 0,
    row 19 0 4 14 31 1, row 20 0 4 14 31 0, row 20 0 3 16 27 0, row 20 0 2 15 30 1,
    row 20 0 1 15 30 0, row 20 0 0 16 28 0, row 20 0 1 15 31 1, row 20 0 2 15 31 0,
    row 20 0 3 15 31 1, row 20 0 4 16 30 1, row 21 0 3 16 30 0, row 21 0 2 18 27 1,
    row 21 0 1 18 27 0, row 21 0 0 16 31 0, row 21 0 1 17 30 1, row 21 0 2 17 30 0,
    row 21 0 3 20 24 0, row 21 0 4 17 31 1, row 22 0 3 17 31 0, row 22 0 2 17 31 1,
    row 22 0 1 18 30 1, row 22 0 0 18 30 0, row 22 0 1 18 31 1, row 22 0 2 18 31 0,
    row 22 0 3 20 27 0, row 22 0 4 19 30 1, row 23 0 3 19 30 0, row 23 0 2 20 28 0,
    row 23 0 1 19 31 1, row 23 0 0 19 31 0, row 23 0 1 19 31 1, row 23 0 2 20 30 1]

/-- Entries 192 to 255 of LUT5 (R466). -/
def lut5Part3 : Vector LutEntry 64 :=
  #v[row 23 0 3 20 30 0, row 23 0 4 22 27 1, row 24 0 4 22 27 0, row 24 0 3 20 31 0,
    row 24 0 2 21 30 1, row 24 0 1 21 30 0, row 24 0 0 24 24 0, row 24 0 1 21 31 1,
    row 24 0 2 21 31 0, row 24 0 3 21 31 1, row 24 0 4 22 30 1, row 25 0 3 22 30 0,
    row 25 0 2 22 31 1, row 25 0 1 22 31 0, row 25 0 0 24 27 0, row 25 0 1 23 30 1,
    row 25 0 2 23 30 0, row 25 0 3 24 28 0, row 25 0 4 23 31 1, row 26 0 3 23 31 0,
    row 26 0 2 23 31 1, row 26 0 1 24 30 1, row 26 0 0 24 30 0, row 26 0 1 26 27 1,
    row 26 0 2 26 27 0, row 26 0 3 24 31 0, row 26 0 4 25 30 1, row 27 0 3 25 30 0,
    row 27 0 2 28 24 0, row 27 0 1 25 31 1, row 27 0 0 25 31 0, row 27 0 1 25 31 1,
    row 27 0 2 26 30 1, row 27 0 3 26 30 0, row 27 0 4 26 31 1, row 28 0 4 26 31 0,
    row 28 0 3 28 27 0, row 28 0 2 27 30 1, row 28 0 1 27 30 0, row 28 0 0 28 28 0,
    row 28 0 1 27 31 1, row 28 0 2 27 31 0, row 28 0 3 27 31 1, row 28 0 4 28 30 1,
    row 29 0 3 28 30 0, row 29 0 2 30 27 1, row 29 0 1 30 27 0, row 29 0 0 28 31 0,
    row 29 0 1 29 30 1, row 29 0 2 29 30 0, row 29 0 3 29 30 1, row 29 0 4 29 31 1,
    row 30 0 3 29 31 0, row 30 0 2 29 31 1, row 30 0 1 30 30 1, row 30 0 0 30 30 0,
    row 30 0 1 30 31 1, row 30 0 2 30 31 0, row 30 0 3 30 31 1, row 30 0 4 31 30 1,
    row 31 0 3 31 30 0, row 31 0 2 31 30 1, row 31 0 1 31 31 1, row 31 0 0 31 31 0]

/-- Entries 0 to 63 of LUT6 (R466). -/
def lut6Part0 : Vector LutEntry 64 :=
  #v[row 0 0 0 0 0 0, row 0 0 1 0 1 0, row 0 0 2 0 2 0, row 1 0 1 0 3 1,
    row 1 0 0 0 3 0, row 1 0 1 0 4 0, row 1 0 2 0 5 0, row 2 0 1 0 6 1,
    row 2 0 0 0 6 0, row 2 0 1 0 7 0, row 2 0 2 0 8 0, row 3 0 1 0 9 1,
    row 3 0 0 0 9 0, row 3 0 1 0 10 0, row 3 0 2 0 11 0, row 4 0 1 0 12 1,
    row 4 0 0 0 12 0, row 4 0 1 0 13 0, row 4 0 2 0 14 0, row 5 0 1 0 15 1,
    row 5 0 0 0 15 0, row 5 0 1 0 16 0, row 5 0 2 1 15 0, row 6 0 1 0 17 0,
    row 6 0 0 0 18 0, row 6 0 1 0 19 0, row 6 0 2 3 14 0, row 7 0 1 0 20 0,
    row 7 0 0 0 21 0, row 7 0 1 0 22 0, row 7 0 2 4 15 0, row 8 0 1 0 23 0,
    row 8 0 0 0 24 0, row 8 0 1 0 25 0, row 8 0 2 6 14 0, row 9 0 1 0 26 0,
    row 9 0 0 0 27 0, row 9 0 1 0 28 0, row 9 0 2 7 15 0, row 10 0 1 0 29 0,
    row 10 0 0 0 30 0, row 10 0 1 0 31 0, row 10 0 2 9 14 0, row 11 0 1 0 32 0,
    row 11 0 0 0 33 0, row 11 0 1 2 30 0, row 11 0 2 0 34 0, row 12 0 1 0 35 0,
    row 12 0 0 0 36 0, row 12 0 1 3 31 0, row 12 0 2 0 37 0, row 13 0 1 0 38 0,
    row 13 0 0 0 39 0, row 13 0 1 5 30 0, row 13 0 2 0 40 0, row 14 0 1 0 41 0,
    row 14 0 0 0 42 0, row 14 0 1 6 31 0, row 14 0 2 0 43 0, row 15 0 1 0 44 0,
    row 15 0 0 0 45 0, row 15 0 1 8 30 0, row 15 0 2 0 46 0, row 16 0 2 0 47 0]

/-- Entries 64 to 127 of LUT6 (R466). -/
def lut6Part1 : Vector LutEntry 64 :=
  #v[row 16 0 1 1 46 0, row 16 0 0 0 48 0, row 16 0 1 0 49 0, row 16 0 2 0 50 0,
    row 17 0 1 2 47 0, row 17 0 0 0 51 0, row 17 0 1 0 52 0, row 17 0 2 0 53 0,
    row 18 0 1 4 46 0, row 18 0 0 0 54 0, row 18 0 1 0 55 0, row 18 0 2 0 56 0,
    row 19 0 1 5 47 0, row 19 0 0 0 57 0, row 19 0 1 0 58 0, row 19 0 2 0 59 0,
    row 20 0 1 7 46 0, row 20 0 0 0 60 0, row 20 0 1 0 61 0, row 20 0 2 0 62 0,
    row 21 0 1 8 47 0, row 21 0 0 0 63 0, row 21 0 1 1 62 0, row 21 0 2 1 63 0,
    row 22 0 1 10 46 0, row 22 0 0 2 62 0, row 22 0 1 2 63 0, row 22 0 2 3 62 0,
    row 23 0 1 11 47 0, row 23 0 0 3 63 0, row 23 0 1 4 62 0, row 23 0 2 4 63 0,
    row 24 0 1 13 46 0, row 24 0 0 5 62 0, row 24 0 1 5 63 0, row 24 0 2 6 62 0,
    row 25 0 1 14 47 0, row 25 0 0 6 63 0, row 25 0 1 7 62 0, row 25 0 2 7 63 0,
    row 26 0 1 16 45 0, row 26 0 0 8 62 0, row 26 0 1 8 63 0, row 26 0 2 9 62 0,
    row 27 0 1 16 48 0, row 27 0 0 9 63 0, row 27 0 1 10 62 0, row 27 0 2 10 63 0,
    row 28 0 1 16 51 0, row 28 0 0 11 62 0, row 28 0 1 11 63 0, row 28 0 2 12 62 0,
    row 29 0 1 16 54 0, row 29 0 0 12 63 0, row 29 0 1 13 62 0, row 29 0 2 13 63 0,
    row 30 0 1 16 57 0, row 30 0 0 14 62 0, row 30 0 1 14 63 0, row 30 0 2 15 62 0,
    row 31 0 1 16 60 0, row 31 0 0 15 63 0, row 31 0 1 24 46 0, row 31 0 2 16 62 0]

/-- Entries 128 to 191 of LUT6 (R466). -/
def lut6Part2 : Vector LutEntry 64 :=
  #v[row 32 0 2 16 63 0, row 32 0 1 17 62 0, row 32 0 0 25 47 0, row 32 0 1 17 63 0,
    row 32 0 2 18 62 0, row 33 0 1 18 63 0, row 33 0 0 27 46 0, row 33 0 1 19 62 0,
    row 33 0 2 19 63 0, row 34 0 1 20 62 0, row 34 0 0 28 47 0, row 34 0 1 20 63 0,
    row 34 0 2 21 62 0, row 35 0 1 21 63 0, row 35 0 0 30 46 0, row 35 0 1 22 62 0,
    row 35 0 2 22 63 0, row 36 0 1 23 62 0, row 36 0 0 31 47 0, row 36 0 1 23 63 0,
    row 36 0 2 24 62 0, row 37 0 1 24 63 0, row 37 0 0 32 47 0, row 37 0 1 25 62 0,
    row 37 0 2 25 63 0, row 38 0 1 26 62 0, row 38 0 0 32 50 0, row 38 0 1 26 63 0,
    row 38 0 2 27 62 0, row 39 0 1 27 63 0, row 39 0 0 32 53 0, row 39 0 1 28 62 0,
    row 39 0 2 28 63 0, row 40 0 1 29 62 0, row 40 0 0 32 56 0, row 40 0 1 29 63 0,
    row 40 0 2 30 62 0, row 41 0 1 30 63 0, row 41 0 0 32 59 0, row 41 0 1 31 62 0,
    row 41 0 2 31 63 0, row 42 0 1 32 61 0, row 42 0 0 32 62 0, row 42 0 1 32 63 0,
    row 42 0 2 41 46 0, row 43 0 1 33 62 0, row 43 0 0 33 63 0, row 43 0 1 34 62 0,
    row 43 0 2 42 47 0, row 44 0 1 34 63 0, row 44 0 0 35 62 0, row 44 0 1 35 63 0,
    row 44 0 2 44 46 0, row 45 0 1 36 62 0, row 45 0 0 36 63 0, row 45 0 1 37 62 0,
    row 45 0 2 45 47 0, row 46 0 1 37 63 0, row 46 0 0 38 62 0, row 46 0 1 38 63 0,
    row 46 0 2 47 46 0, row 47 0 1 39 62 0, row 47 0 0 39 63 0, row 47 0 1 40 62 0]

/-- Entries 192 to 255 of LUT6 (R466). -/
def lut6Part3 : Vector LutEntry 64 :=
  #v[row 47 0 2 48 46 0, row 48 0 2 40 63 0, row 48 0 1 41 62 0, row 48 0 0 41 63 0,
    row 48 0 1 48 49 0, row 48 0 2 42 62 0, row 49 0 1 42 63 0, row 49 0 0 43 62 0,
    row 49 0 1 48 52 0, row 49 0 2 43 63 0, row 50 0 1 44 62 0, row 50 0 0 44 63 0,
    row 50 0 1 48 55 0, row 50 0 2 45 62 0, row 51 0 1 45 63 0, row 51 0 0 46 62 0,
    row 51 0 1 48 58 0, row 51 0 2 46 63 0, row 52 0 1 47 62 0, row 52 0 0 47 63 0,
    row 52 0 1 48 61 0, row 52 0 2 48 62 0, row 53 0 1 56 47 0, row 53 0 0 48 63 0,
    row 53 0 1 49 62 0, row 53 0 2 49 63 0, row 54 0 1 58 46 0, row 54 0 0 50 62 0,
    row 54 0 1 50 63 0, row 54 0 2 51 62 0, row 55 0 1 59 47 0, row 55 0 0 51 63 0,
    row 55 0 1 52 62 0, row 55 0 2 52 63 0, row 56 0 1 61 46 0, row 56 0 0 53 62 0,
    row 56 0 1 53 63 0, row 56 0 2 54 62 0, row 57 0 1 62 47 0, row 57 0 0 54 63 0,
    row 57 0 1 55 62 0, row 57 0 2 55 63 0, row 58 0 1 56 62 1, row 58 0 0 56 62 0,
    row 58 0 1 56 63 0, row 58 0 2 57 62 0, row 59 0 1 57 63 1, row 59 0 0 57 63 0,
    row 59 0 1 58 62 0, row 59 0 2 58 63 0, row 60 0 1 59 62 1, row 60 0 0 59 62 0,
    row 60 0 1 59 63 0, row 60 0 2 60 62 0, row 61 0 1 60 63 1, row 61 0 0 60 63 0,
    row 61 0 1 61 62 0, row 61 0 2 61 63 0, row 62 0 1 62 62 1, row 62 0 0 62 62 0,
    row 62 0 1 62 63 0, row 62 0 2 63 62 0, row 63 0 1 63 63 1, row 63 0 0 63 63 0]

/-- PARAM_LUT5's default: the LUT5 columns of R466. -/
def lut5 : Lut := lut5Part0 ++ lut5Part1 ++ lut5Part2 ++ lut5Part3

/-- PARAM_LUT6's default: the LUT6 columns of R466. -/
def lut6 : Lut := lut6Part0 ++ lut6Part1 ++ lut6Part2 ++ lut6Part3

/-- 00_scope.md R6: the defaults this spec takes; PARAM_RECIP_EPS is the binary64 nearest 1.0e-12. -/
def defaultParams : Params where
  maddFused  := false
  recipGuard := .ieee
  recipEps   := 0x3D719799812DEA11
  paIter     := 8
  cfTie      := .serial
  scTie      := .second
  lut5       := lut5
  lut6       := lut6

/-! ## The generator (R451, R452, R454) -/

/-- R452: the decoder's bit replication of a b-bit code (b = 5 or 6). -/
def expandCode (b q : Nat) : Nat := ((q <<< (8 - b)) ||| (q >>> (2 * b - 8))) % 256

/-- R451: the colour code that orientation o of the endpoint codes (q1, q2) stands for. -/
def orientationCode (b o q1 q2 : Nat) : Nat :=
  if o = 0 then expandCode b q1 else (2 * expandCode b q1 + expandCode b q2) / 3

/-- A cell of the table under construction: start, end, error (255 = unset). -/
abbrev GenCell := Nat × Nat × Nat

/-- The pairs (q1, q2) in R454's loop order: q1 outer, q2 inner. -/
def genPairs (b : Nat) : List (Nat × Nat) :=
  (List.range (2 ^ b)).flatMap fun q1 => (List.range (2 ^ b)).map fun q2 => (q1, q2)

/-- R454's double loop for one orientation over the pairs left: the first pair that hits a value
exactly is kept. The two orientations do not interact. -/
def genHits (b o : Nat) : List (Nat × Nat) → List GenCell → List GenCell
  | [], t => t
  | q :: pairs, t =>
    match t[orientationCode b o q.1 q.2]? with
    | some (_, _, 0) => genHits b o pairs t
    | _ => genHits b o pairs (t.set (orientationCode b o q.1 q.2) (q.1, q.2, 0))

/-- Takes the neighbour's pair at one more error when that is better (R454). -/
def genTake (cell neighbour : GenCell) : GenCell :=
  if cell.2.2 > neighbour.2.2 + 1 then (neighbour.1, neighbour.2.1, neighbour.2.2 + 1) else cell

/-- One sweep of R454's `repeat` loop, t ascending: first the not yet visited right neighbour, then
the already visited left one. -/
def genSweep : Option GenCell → List GenCell → List GenCell
  | _, [] => []
  | left, cell :: rest =>
    let c1 := match rest with
      | right :: _ => genTake cell right
      | [] => cell
    let c2 := match left with
      | some l => genTake c1 l
      | none => c1
    c2 :: genSweep (some c2) rest

/-- R454's `repeat … until stable`, cut off after `fuel` sweeps (DESIGN CHOICE, log 11). -/
def genRelax : Nat → List GenCell → List GenCell
  | 0, t => t
  | fuel + 1, t => if genSweep none t = t then t else genRelax fuel (genSweep none t)

/-- R454 for one orientation. 256 sweeps exceed what either table needs before it is stable; the
outcome is R466's (`Obligations.TablesAreTheGeneratorsOutput`). -/
def genOrientation (b o : Nat) : List GenCell :=
  genRelax 256 (genHits b o (genPairs b) (List.replicate 256 (0, 0, 255)))

/-- R454: `gen(b)`. -/
def gen (b : Nat) : List LutEntry :=
  List.zipWith (fun (c0 c1 : GenCell) => row c0.1 c0.2.1 c0.2.2 c1.1 c1.2.1 c1.2.2)
    (genOrientation b 0) (genOrientation b 1)

/-! ## Reading -/

/-- Entry v of a table (R450). -/
def lutEntry (t : Lut) (v : Byte) : LutEntry := t[v.toNat]'v.isLt

/-- Orientation o of an entry; o is 0 or 1 (R450). -/
def orientation (t : LutEntry) (o : Nat) : LutTriple := if o = 0 then t.o0 else t.o1

/-- 10_state.md R120: the ROM word of an orientation, bits 7:0 start, 15:8 end, 23:16 error. -/
def lutWord (t : LutTriple) : Word := (0 : Byte) ++ t.error ++ t.stop ++ t.start

end Sys2Proof.Machine
end

