-- ==== Sys2Proof/Machine/State.lean ====
section
/-! DEFINITION. The state of the engine and of its surroundings, as plain data, with the value of
every piece after reset; and the reasons a step can stop. -/

namespace Sys2Proof.Machine

/-- STATUS (10_state.md R103). Its reserved bits are no state (R121). -/
structure Status where
  busy    : Bool
  done    : Bool
  errcode : BitVec 4
  deriving DecidableEq, Repr

/-- The eight diagnostic registers (10_state.md R106 to R112). -/
structure Diag where
  fit    : Word
  cfErr  : Word
  cfBest : Word
  scErr  : Word
  aErr5  : Word
  aErr7  : Word
  aSel   : Word
  aRange : Word
  deriving DecidableEq, Repr

/-- The latch written at command acceptance (10_state.md R122, 60_exceptions.md R901). -/
structure Latch where
  cmd   : Word
  valid : BitVec 16
  pixIn : Vector Word 16
  blkIn : Block16
  va    : V4
  vb    : V4
  vc    : V4
  deriving DecidableEq, Repr

/-- What can happen next outside the engine's own course: a host access (10_state.md R100, 00_scope.md
R8: offset, width in bytes, value), the point at which the engine's complete step falls among them,
and the platform's reset (70_reset_and_hazards.md R950). -/
inductive Event where
  | read (off size : Nat)
  | write (off size : Nat) (v : Word)
  | complete
  | reset
  deriving DecidableEq, Repr

/-- The registers of the window (10_state.md R101), lanes and buffer words by number. -/
inductive Reg where
  | cmd
  | status
  | valid
  | id
  | diagFit
  | diagCfErr
  | diagCfBest
  | diagScErr
  | diagAErr5
  | diagAErr7
  | diagASel
  | diagARange
  | pixIn (s : Fin 16)
  | blkIn (m : Fin 4)
  | va (lane : Fin 4)
  | vb (lane : Fin 4)
  | vc (lane : Fin 4)
  | pixOut (s : Fin 16)
  | blkOut (m : Fin 4)
  | vr (lane : Fin 4)
  | lut (t : Fin 2) (v : Fin 256) (o : Fin 2)
  | reserved
  deriving DecidableEq, Repr

/-- The whole machine. The fields down to `latch` are the spec's; `params` is the spec's "named
argument of the model" (00_scope.md R6) with the ROM tables (10_state.md R127) in it; the rest are
the MODEL's own: the pending events (log 1), the word the host's last read returned (log 13), and the
counters of free values already drawn (log 4, log 5). -/
structure State where
  cmd      : Word
  status   : Status
  /-- VALID bits 15:0; bits 31:16 are reserved and no state (10_state.md R104). -/
  valid    : BitVec 16
  pixIn    : Vector Word 16
  blkIn    : Block16
  va       : V4
  vb       : V4
  vc       : V4
  diag     : Diag
  pixOut   : Vector Word 16
  blkOut   : Block16
  vr       : V4
  latch    : Latch
  params   : Params
  inputs   : List Event
  readData : Word
  freeReads : Nat
  freeTies  : Nat
  deriving DecidableEq, Repr

/-- Raised by `step`. The engine itself has no fault (60_exceptions.md R904, R906). -/
inductive Fault where
  /-- STATUS.BUSY is 1 and the latched word is no command. Acceptance latches commands only
  (60_exceptions.md R901), so no run reaches it (log 12). Safe: it only stops. -/
  | latchHoldsNoCommand
  deriving DecidableEq, Repr

/-- No meaning. -/
inductive Refusal where
  /-- Raised by an arm of `exec` whose instruction has no meaning yet. Safe: it only stops. -/
  | notModelled (mnemonic : String)
  /-- Raised by a host access of another width than 32 bits, at a misaligned offset or at 0x2000 or
  above: outside the specification, "a model refuses them" (20_memory.md R201; log 12). Safe: it
  only stops. -/
  | undefinedAccess
  deriving DecidableEq, Repr

def zeroV4 : V4 := ⟨0, 0, 0, 0⟩

def Diag.zero : Diag := ⟨0, 0, 0, 0, 0, 0, 0, 0⟩

/-- DESIGN CHOICE (log 2): 70_reset_and_hazards.md R951 leaves the latch unspecified after reset; "never read
before the first acceptance overwrites it". -/
def Latch.afterReset : Latch :=
  ⟨0, 0, Vector.replicate 16 0, Vector.replicate 16 0, zeroV4, zeroV4, zeroV4⟩

/-- The machine right after reset (70_reset_and_hazards.md R951), with the default parameters of
00_scope.md R6 and nothing pending (log 1, log 3, log 4, log 5). -/
def State.reset : State where
  cmd       := 0x00000000
  status    := ⟨false, false, 0⟩
  valid     := 0xFFFF
  pixIn     := Vector.replicate 16 0
  blkIn     := Vector.replicate 16 0
  va        := zeroV4
  vb        := zeroV4
  vc        := zeroV4
  diag      := Diag.zero
  pixOut    := Vector.replicate 16 0
  blkOut    := Vector.replicate 16 0
  vr        := zeroV4
  latch     := Latch.afterReset
  params    := defaultParams
  inputs    := []
  readData  := 0
  freeReads := 0
  freeTies  := 0

end Sys2Proof.Machine
end

