-- ==== Sys2Proof/Machine/Operands.lean ====
section
/-! DEFINITION. The operand forms: lanes and lane-wise application (00_scope.md R13,
40_vector_primitives.md R400, R410), the channels of a pixel word (10_state.md R114), and bytes,
halves and words of the block buffers (20_memory.md R200, R202). Commands have no operand fields;
they read the latch (30_encoding.md R305, 10_state.md R122). -/

namespace Sys2Proof.Machine

/-! ## Lanes -/

/-- The lane at byte offset 4*l of a V4 register (10_state.md R116). -/
def lane (v : V4) (l : Fin 4) : F32 :=
  match l with
  | 0 => v.x
  | 1 => v.y
  | 2 => v.z
  | 3 => v.w

def setLane (v : V4) (l : Fin 4) (a : F32) : V4 :=
  match l with
  | 0 => { v with x := a }
  | 1 => { v with y := a }
  | 2 => { v with z := a }
  | 3 => { v with w := a }

/-- `xyz(v)` (00_scope.md R13). -/
def xyz (v : V4) : V3 := ⟨v.x, v.y, v.z⟩

/-- `bcast(s)` (00_scope.md R13). -/
def bcast (a : F32) : V4 := ⟨a, a, a, a⟩

/-- `splatW(v)` (40_vector_primitives.md R410). -/
def splatW (v : V4) : V4 := bcast v.w

/-- A three-lane result as a VR value: lane w is +0 (92_eei_decisions.md D57). -/
def withZeroW (v : V3) : V4 := ⟨v.x, v.y, v.z, fzero⟩

/-- A scalar result as a VR value: lanes y, z and w are +0 (92_eei_decisions.md D56). -/
def scalarResult (a : F32) : V4 := ⟨a, fzero, fzero, fzero⟩

def map3 (f : F32 → F32) (a : V3) : V3 := ⟨f a.x, f a.y, f a.z⟩
def zip3 (f : F32 → F32 → F32) (a b : V3) : V3 := ⟨f a.x b.x, f a.y b.y, f a.z b.z⟩
def zipc3 (f : F32 → F32 → F32 → F32) (a b c : V3) : V3 :=
  ⟨f a.x b.x c.x, f a.y b.y c.y, f a.z b.z c.z⟩

def map4 (f : F32 → F32) (a : V4) : V4 := ⟨f a.x, f a.y, f a.z, f a.w⟩
def zip4 (f : F32 → F32 → F32) (a b : V4) : V4 := ⟨f a.x b.x, f a.y b.y, f a.z b.z, f a.w b.w⟩
def zipc4 (f : F32 → F32 → F32 → F32) (a b c : V4) : V4 :=
  ⟨f a.x b.x c.x, f a.y b.y c.y, f a.z b.z c.z, f a.w b.w c.w⟩

/-! ## Vector functions (40_vector_primitives.md R401 to R408) -/

def vadd : V4 → V4 → V4 := zip4 fadd
def vsub : V4 → V4 → V4 := zip4 fsub
def vmul : V4 → V4 → V4 := zip4 fmul
def vmadd (fused : Bool) : V4 → V4 → V4 → V4 := zipc4 (fmadd fused)
def vnmsub (fused : Bool) : V4 → V4 → V4 → V4 := zipc4 (fnmsub fused)
def vclamp : V4 → V4 := map4 clamp01
def vtrunc : V4 → V4 := map4 ftrunc
def vrecip : V4 → V4 := map4 recip

/-- R402: three rounded products, summed left to right with a rounding after each addition. -/
def dot3 (a b : V3) : F32 :=
  fadd (fadd (fmul a.x b.x) (fmul a.y b.y)) (fmul a.z b.z)

/-! ## Pixels (10_state.md R114, R117) -/

def pixR (p : Word) : Byte := byteOfWord p 0
def pixG (p : Word) : Byte := byteOfWord p 1
def pixB (p : Word) : Byte := byteOfWord p 2
def pixA (p : Word) : Byte := byteOfWord p 3

/-- The pixel word of four channel values. -/
def pixelWord (r g b a : Byte) : Word := wordOfBytes r g b a

/-- Bit s of VALID (10_state.md R104). -/
def slotValid (l : Latch) (s : Slot) : Bool := l.valid.getLsbD s.val

/-- The latched input pixel of a slot. -/
def slotPixel (l : Latch) (s : Slot) : Word := l.pixIn[s]

/-- The slots in raster order (00_scope.md R14). -/
def slots : List Slot := [0, 1, 2, 3, 4, 5, 6, 7, 8, 9, 10, 11, 12, 13, 14, 15]

/-! ## Blocks (30_encoding.md R310 to R313) -/

/-- Bytes 0..7 of a buffer. -/
def lowHalf (b : Block16) : Block8 := Vector.ofFn fun k : Fin 8 => b[k.val]

/-- Bytes 8..15 of a buffer. -/
def highHalf (b : Block16) : Block8 := Vector.ofFn fun k : Fin 8 => b[k.val + 8]

/-- A 16-byte block from its halves (R313). -/
def joinHalves (lo hi : Block8) : Block16 := lo ++ hi

/-- The half that an 8-byte result leaves zero (10_state.md R118). -/
def zeroHalf : Block8 := Vector.replicate 8 0

/-- Word m of a buffer (20_memory.md R202). -/
def bufferWord (b : Block16) (m : Fin 4) : Word :=
  wordOfBytes b[4 * m.val] b[4 * m.val + 1] b[4 * m.val + 2] b[4 * m.val + 3]

/-- A buffer with word m replaced (20_memory.md R202). -/
def setBufferWord (b : Block16) (m : Fin 4) (v : Word) : Block16 :=
  Vector.ofFn fun k : Fin 16 => if k.val / 4 = m.val then byteOfWord v (k.val % 4) else b[k]

/-- The little-endian value of an 8-byte block (20_memory.md R200). -/
def blockValue (b : Block8) : BitVec 64 :=
  b[7] ++ b[6] ++ b[5] ++ b[4] ++ b[3] ++ b[2] ++ b[1] ++ b[0]

/-- The 8 bytes of a little-endian value (20_memory.md R200). -/
def blockOfValue (v : BitVec 64) : Block8 :=
  Vector.ofFn fun k : Fin 8 => v.extractLsb' (8 * k.val) 8

end Sys2Proof.Machine
end

