-- ==== Sys2Proof/Machine/Flags.lean ====
section
/-! DEFINITION. The STATUS word and the words of the diagnostic registers (10_state.md R103, R106 to
R112). There are no other flags (R126) and no arithmetic flags (60_exceptions.md R904). -/

namespace Sys2Proof.Machine

/-- 10_state.md R103: BUSY 0, DONE 1, ERRCODE 11:8, the rest 0. -/
def statusWord (st : Status) : Word :=
  (0 : BitVec 20) ++ st.errcode ++ (0 : BitVec 6) ++ BitVec.ofBool st.done ++ BitVec.ofBool st.busy

/-- 60_exceptions.md R900: the ERRCODE values. -/
def errNone : BitVec 4 := 0
def errIllegalOpcode : BitVec 4 := 1
def errReservedField : BitVec 4 := 2
def errBusy : BitVec 4 := 3

/-- 10_state.md R106: FITTER 1:0, NPOINTS 8:4, CF_PASSES 15:12, SC_ORIENT 16, the rest 0. -/
def diagFitWord (fitter nPoints cfPasses scOrient : Nat) : Word :=
  (0 : BitVec 15) ++ BitVec.ofNat 1 scOrient ++ BitVec.ofNat 4 cfPasses ++ (0 : BitVec 3) ++
    BitVec.ofNat 5 nPoints ++ (0 : BitVec 2) ++ BitVec.ofNat 2 fitter

/-- 10_state.md R108: BESTI 4:0, BESTJ 12:8, BESTK 20:16, BESTITER 26:24, the rest 0. -/
def diagCfBestWord (i j k iter : Nat) : Word :=
  (0 : BitVec 5) ++ BitVec.ofNat 3 iter ++ (0 : BitVec 3) ++ BitVec.ofNat 5 k ++ (0 : BitVec 3) ++
    BitVec.ofNat 5 j ++ (0 : BitVec 3) ++ BitVec.ofNat 5 i

/-- 10_state.md R112: min5 7:0, max5 15:8, min7 23:16, max7 31:24. -/
def diagARangeWord (min5 max5 min7 max7 : Nat) : Word :=
  wordOfBytes (BitVec.ofNat 8 min5) (BitVec.ofNat 8 max5) (BitVec.ofNat 8 min7)
    (BitVec.ofNat 8 max7)

/-- 10_state.md R111: bit 0 SEL7, the rest 0. -/
def diagASelWord (sel7 : Bool) : Word := (0 : BitVec 31) ++ BitVec.ofBool sel7

end Sys2Proof.Machine
end

