-- ==== Sys2Proof/Machine/Ops.lean ====
section
/-! DEFINITION. The named operations over the state: the register window (10_state.md R101,
20_memory.md R201 to R207), the issue of a command with its refusal, which is all this engine has for
an exception (60_exceptions.md R900 to R902, R906), the completion frame of R903, and the platform's
reset (70_reset_and_hazards.md R950). A refusal saves nothing and transfers no control, so there is no
return from one (R906). -/

namespace Sys2Proof.Machine

/-! ## Updates of one piece of state -/

def setStatus (st : Status) (s : State) : State := { s with status := st }
def setDiag (d : Diag) (s : State) : State := { s with diag := d }
def setPixOut (p : Vector Word 16) (s : State) : State := { s with pixOut := p }
def setBlkOut (b : Block16) (s : State) : State := { s with blkOut := b }
def setVr (v : V4) (s : State) : State := { s with vr := v }
def setInputs (es : List Event) (s : State) : State := { s with inputs := es }
def setReadData (w : Word) (s : State) : State := { s with readData := w }
def setFreeReads (n : Nat) (s : State) : State := { s with freeReads := n }
def setFreeTies (n : Nat) (s : State) : State := { s with freeTies := n }

/-! ## The register window -/

/-- The register at an aligned offset below 0x2000 (10_state.md R101, R120, R121). -/
def regAt (off : Nat) : Reg :=
  if off < 0x040 then
    match off / 4 with
    | 0x0 => .cmd
    | 0x1 => .status
    | 0x2 => .valid
    | 0x3 => .id
    | 0x8 => .diagFit
    | 0x9 => .diagCfErr
    | 0xA => .diagCfBest
    | 0xB => .diagScErr
    | 0xC => .diagAErr5
    | 0xD => .diagAErr7
    | 0xE => .diagASel
    | 0xF => .diagARange
    | _ => .reserved
  else if off < 0x080 then .pixIn (Fin.ofNat 16 ((off - 0x040) / 4))
  else if off < 0x090 then .blkIn (Fin.ofNat 4 ((off - 0x080) / 4))
  else if off < 0x0A0 then .va (Fin.ofNat 4 ((off - 0x090) / 4))
  else if off < 0x0B0 then .vb (Fin.ofNat 4 ((off - 0x0A0) / 4))
  else if off < 0x0C0 then .vc (Fin.ofNat 4 ((off - 0x0B0) / 4))
  else if off < 0x100 then .pixOut (Fin.ofNat 16 ((off - 0x0C0) / 4))
  else if off < 0x110 then .blkOut (Fin.ofNat 4 ((off - 0x100) / 4))
  else if off < 0x120 then .vr (Fin.ofNat 4 ((off - 0x110) / 4))
  else if off < 0x1000 then .reserved
  else .lut (Fin.ofNat 2 ((off - 0x1000) / 0x800)) (Fin.ofNat 256 (off % 0x800 / 8))
    (Fin.ofNat 2 (off % 8 / 4))

/-- The constant of the ID register (10_state.md R105). -/
def idWord : Word := 0x44580100

/-- The current value of a register (10_state.md R101 to R121). -/
def readReg (s : State) : Reg → Word
  | .cmd => s.cmd
  | .status => statusWord s.status
  | .valid => s.valid.setWidth 32
  | .id => idWord
  | .diagFit => s.diag.fit
  | .diagCfErr => s.diag.cfErr
  | .diagCfBest => s.diag.cfBest
  | .diagScErr => s.diag.scErr
  | .diagAErr5 => s.diag.aErr5
  | .diagAErr7 => s.diag.aErr7
  | .diagASel => s.diag.aSel
  | .diagARange => s.diag.aRange
  | .pixIn i => s.pixIn[i]
  | .blkIn m => bufferWord s.blkIn m
  | .va l => lane s.va l
  | .vb l => lane s.vb l
  | .vc l => lane s.vc l
  | .pixOut i => s.pixOut[i]
  | .blkOut m => bufferWord s.blkOut m
  | .vr l => lane s.vr l
  | .lut t v o =>
    lutWord (orientation (lutEntry (if t = 0 then s.params.lut5 else s.params.lut6)
      (BitVec.ofNat 8 v.val)) o.val)
  | .reserved => 0

/-- The output and diagnostic registers, whose reads 20_memory.md R206 leaves open while BUSY. -/
def openWhileBusy : Reg → Bool
  | .diagFit => true
  | .diagCfErr => true
  | .diagCfBest => true
  | .diagScErr => true
  | .diagAErr5 => true
  | .diagAErr7 => true
  | .diagASel => true
  | .diagARange => true
  | .pixOut _ => true
  | .blkOut _ => true
  | .vr _ => true
  | _ => false

/-- A write to a register other than CMD: an RW register takes the value, its reserved bits ignored;
every other write is ignored (10_state.md R101, R104, R121, 20_memory.md R204). -/
def writeReg (v : Word) (s : State) : Reg → State
  | .valid => { s with valid := v.setWidth 16 }
  | .pixIn i => { s with pixIn := s.pixIn.set i v }
  | .blkIn m => { s with blkIn := setBufferWord s.blkIn m v }
  | .va l => { s with va := setLane s.va l v }
  | .vb l => { s with vb := setLane s.vb l v }
  | .vc l => { s with vc := setLane s.vc l v }
  | _ => s

/-- Byte `off` of the register window, as aligned reads outside BUSY give it (20_memory.md R200). -/
def windowByte (s : State) (off : Nat) : Byte :=
  byteOfWord (readReg s (regAt (off / 4 * 4))) (off % 4)

/-! ## Issue, acceptance and refusal of a command -/

/-- `raise CommandError(code)` (00_scope.md R8, 60_exceptions.md R900 to R902): ERRCODE takes the
code, codes 1 and 2 set DONE, nothing else changes. -/
def raiseCommandError (code : BitVec 4) (s : State) : State :=
  setStatus { s.status with errcode := code, done := s.status.done || code != errBusy } s

/-- The live inputs, as the latch copies them (10_state.md R122). -/
def latchOf (w : Word) (s : State) : Latch :=
  ⟨w, s.valid, s.pixIn, s.blkIn, s.va, s.vb, s.vc⟩

/-- The acceptance branch of 60_exceptions.md R901. -/
def accept (w : Word) (s : State) : State :=
  { s with cmd := w, latch := latchOf w s, status := ⟨true, false, errNone⟩ }

/-- The ERRCODE of a word that is no command (60_exceptions.md R900). -/
def errcodeOf : DecodeError → BitVec 4
  | .illegalOpcode => errIllegalOpcode
  | .reservedField => errReservedField

/-- A host write to CMD (60_exceptions.md R901, R902): the causes in the order BUSY, illegal opcode,
reserved field, else acceptance. -/
def issue (w : Word) (s : State) : State :=
  if s.status.busy then raiseCommandError errBusy s
  else match decodeWord w with
    | .error err => raiseCommandError (errcodeOf err) s
    | .ok _ => accept w s

/-! ## Host accesses (20_memory.md R201 to R206) -/

/-- `MemRead(off, size)`: the result goes to the host, held in `readData`; reads have no other effect
(R204). An output or diagnostic register read while BUSY gives any value (R206): a free value. -/
def hostRead (off size : Nat) (s : State) : Host.Outcome State Fault Refusal :=
  if WellFormed.access off size then
    if s.status.busy && openWhileBusy (regAt off) then
      .next (setFreeReads (s.freeReads + 1) (setReadData (Config.busyRead s.freeReads) s))
    else .next (setReadData (readReg s (regAt off)) s)
  else .refused .undefinedAccess

/-- `MemWrite(off, size, v)`: a write to CMD issues a command, any other only updates its register
(R204). -/
def hostWrite (off size : Nat) (v : Word) (s : State) : Host.Outcome State Fault Refusal :=
  if WellFormed.access off size then
    match regAt off with
    | .cmd => .next (issue v s)
    | r => .next (writeReg v s r)
  else .refused .undefinedAccess

/-! ## Completion (60_exceptions.md R903) -/

/-- STATUS.BUSY <- 0, DONE <- 1, ERRCODE unchanged. -/
def finish (s : State) : State := setStatus { s.status with busy := false, done := true } s

/-- Every command but NOP first writes 0 to all eight DIAG registers (R903, 48_encoder_commands.md
R805). -/
def clearDiag (s : State) : State := setDiag Diag.zero s

/-- The complete step of a primitive command: VR is its only output (10_state.md R119). -/
def completePrimitive (v : V4) (s : State) : Host.Outcome State Fault Refusal :=
  .next (finish (setVr v (clearDiag s)))

/-- The complete step of a decode command: PIX_OUT is its only output (10_state.md R117). -/
def completeDecode (p : Vector Word 16) (s : State) : Host.Outcome State Fault Refusal :=
  .next (finish (setPixOut p (clearDiag s)))

/-- The complete step of an encode command: BLK_OUT and its DIAG fields, the other fields 0
(10_state.md R118, 48_encoder_commands.md R805). -/
def completeEncode (b : Block16) (d : Diag) (s : State) : Host.Outcome State Fault Refusal :=
  .next (finish (setDiag d (setBlkOut b (clearDiag s))))

/-! ## Reset -/

/-- The platform's reset (70_reset_and_hazards.md R950, R951): every register takes its reset value, a
command in progress is abandoned; the ROM and the other parameters are unaffected, and so is what
lies outside the engine. -/
def platformReset (s : State) : State :=
  { State.reset with
    params := s.params, inputs := s.inputs, readData := s.readData,
    freeReads := s.freeReads, freeTies := s.freeTies }

end Sys2Proof.Machine
end

