-- ==== Sys2Proof/Machine/ColourSet.lean ====
section
/-! DEFINITION. The block colour-set builder, the weighted covariance and the principal axis
(42_color_set_builder.md). A Map entry or an alpha of -1 is `none`. -/

namespace Sys2Proof.Machine

/-- The builder modes of R500. -/
inductive BuilderMode where
  | dxt1
  | dxt1a
  | dxt5
  deriving DecidableEq, Repr

/-- The builder's points (lanes x, y, z the colour, w the weight) and its Map (R501). -/
structure ColourSet where
  points : List V4
  map    : List (Option Nat)
  deriving DecidableEq, Repr

/-- R502: each channel divided by 255. -/
def pointOf (p : Word) : V3 :=
  ⟨fdiv (f32OfNat (pixR p).toNat) c255, fdiv (f32OfNat (pixG p).toNat) c255,
   fdiv (f32OfNat (pixB p).toNat) c255⟩

/-- R503: the weight a pixel contributes. -/
def pixelWeight (wa : Bool) (p : Word) : F32 :=
  if wa then fdiv (f32OfNat ((pixA p).toNat + 1)) c256 else fone

/-- R501: a valid slot makes no point exactly in mode DXT1A with alpha below 128. -/
def makesPoint (l : Latch) (mode : BuilderMode) (s : Slot) : Bool :=
  slotValid l s && !(mode == .dxt1a && decide ((pixA (slotPixel l s)).toNat < 128))

/-- Float equality of the three colour lanes (R501). -/
def samePoint (p : V4) (c : V3) : Bool := feq p.x c.x && feq p.y c.y && feq p.z c.z

/-- R501, R504: the first equal point gets the weight added, or a new point is appended; with the
point's number, counted from `i`. -/
def addPoint (c : V3) (w : F32) : List V4 → Nat → List V4 × Nat
  | [], i => ([⟨c.x, c.y, c.z, w⟩], i)
  | p :: ps, i =>
    if samePoint p c then ({ p with w := fadd p.w w } :: ps, i)
    else
      let r := addPoint c w ps (i + 1)
      (p :: r.1, r.2)

/-- The scan of R501 over the slots left, from the points found so far: all the points, and the Map
entries of these slots. -/
def scanSlots (l : Latch) (mode : BuilderMode) (wa : Bool) :
    List Slot → List V4 → List V4 × List (Option Nat)
  | [], pts => (pts, [])
  | s :: rest, pts =>
    if makesPoint l mode s then
      let px := slotPixel l s
      let a := addPoint (pointOf px) (pixelWeight wa px) pts 0
      let r := scanSlots l mode wa rest a.1
      (r.1, some a.2 :: r.2)
    else
      let r := scanSlots l mode wa rest pts
      (r.1, none :: r.2)

/-- R505: the weight replaced by its square root. -/
def rootWeight (p : V4) : V4 := { p with w := fsqrt p.w }

/-- R501 to R505: the colour-set builder. -/
def colourSet (l : Latch) (mode : BuilderMode) (wa : Bool) : ColourSet :=
  let r := scanSlots l mode wa slots []
  ⟨r.1.map rootWeight, r.2⟩

/-- R507: the alpha list; an invalid slot is "don't care". -/
def alphaList (l : Latch) : List (Option Nat) :=
  slots.map fun s => if slotValid l s then some (pixA (slotPixel l s)).toNat else none

/-! ## Weighted covariance (R509) -/

def zeroV3 : V3 := ⟨fzero, fzero, fzero⟩

/-- The total weight and the weighted colour sum, in point order. -/
def weightedSum (ps : List V4) : F32 × V3 :=
  ps.foldl (fun acc p =>
    (fadd acc.1 p.w, zip3 fadd acc.2 (map3 (fun c => fmul c p.w) (xyz p)))) (fzero, zeroV3)

def centroid (ps : List V4) : V3 :=
  let t := weightedSum ps
  if fgt t.1 cFltEps then map3 (fun c => fdiv c t.1) t.2 else t.2

/-- The upper triangle of the symmetric 3x3 covariance: cov[0..5]. -/
structure Covariance where
  xx : F32
  xy : F32
  xz : F32
  yy : F32
  yz : F32
  zz : F32
  deriving DecidableEq, Repr

def addCovariance (c : V3) (cov : Covariance) (p : V4) : Covariance :=
  let a := zip3 fsub (xyz p) c
  let b := map3 (fun d => fmul p.w d) a
  ⟨fadd cov.xx (fmul a.x b.x), fadd cov.xy (fmul a.x b.y), fadd cov.xz (fmul a.x b.z),
   fadd cov.yy (fmul a.y b.y), fadd cov.yz (fmul a.y b.z), fadd cov.zz (fmul a.z b.z)⟩

def covariance (ps : List V4) : Covariance :=
  ps.foldl (addCovariance (centroid ps)) ⟨fzero, fzero, fzero, fzero, fzero, fzero⟩

/-! ## Principal axis (R510) -/

/-- One power-iteration step; separate products and sums whatever PARAM_MADD_FUSED holds. -/
def powerStep (eps : F64) (cov : Covariance) (v : V4) : V4 :=
  let w0 := vmul ⟨cov.xx, cov.xy, cov.xz, fzero⟩ (bcast v.x)
  let w1 := vadd (vmul ⟨cov.xy, cov.yy, cov.yz, fzero⟩ (bcast v.y)) w0
  let w2 := vadd (vmul ⟨cov.xz, cov.yz, cov.zz, fzero⟩ (bcast v.z)) w1
  vmul w2 (bcast (precip eps (fmax w2.x (fmax w2.y w2.z))))

def powerIterate (eps : F64) (cov : Covariance) : Nat → V4 → V4
  | 0, v => v
  | n + 1, v => powerIterate eps cov n (powerStep eps cov v)

/-- R510: PARAM_PA_ITER steps from (1, 1, 1, 1). -/
def principalAxis (p : Params) (ps : List V4) : V3 :=
  xyz (powerIterate p.recipEps (covariance ps) p.paIter (bcast fone))

end Sys2Proof.Machine
end

