-- ==== Sys2Proof/Machine/Alpha.lean ====
section
/-! DEFINITION. The alpha-plane encoder and decoder (46_alpha_codec.md R700 to R711). All integers are
naturals: the spec's signed test `max - min < steps` is written `max < min + steps`, and
`max(0, max - steps)` is natural subtraction (DEDUCED, log 10). -/

namespace Sys2Proof.Machine

/-! ## Interpolated alpha encoder -/

/-- A topology's end values. -/
structure AlphaRange where
  min : Nat
  max : Nat
  deriving DecidableEq, Repr

/-- R701: the 7-step topology spans every valid value. -/
def range7Step (r : AlphaRange) (a : Option Nat) : AlphaRange :=
  match a with
  | none => r
  | some v => ⟨if v < r.min then v else r.min, if v > r.max then v else r.max⟩

/-- R701: the 5-step topology leaves 0 out of its minimum and 255 out of its maximum. -/
def range5Step (r : AlphaRange) (a : Option Nat) : AlphaRange :=
  match a with
  | none => r
  | some v =>
    ⟨if v ≠ 0 ∧ v < r.min then v else r.min, if v ≠ 255 ∧ v > r.max then v else r.max⟩

/-- R702: `FixRange(min, max, steps)`. -/
def fixRange (steps : Nat) (r : AlphaRange) : AlphaRange :=
  let max' := if r.max < r.min + steps then Nat.min (r.min + steps) 255 else r.max
  let min' := if max' < r.min + steps then max' - steps else r.min
  ⟨min', max'⟩

/-- R701, R702: min5 and max5. -/
def alphaRange5 (as : List (Option Nat)) : AlphaRange :=
  fixRange 5 (as.foldl range5Step ⟨255, 0⟩)

/-- R701, R702: min7 and max7. -/
def alphaRange7 (as : List (Option Nat)) : AlphaRange :=
  fixRange 7 (as.foldl range7Step ⟨255, 0⟩)

/-- R703: interpolant i of a topology. -/
def alphaStep (steps : Nat) (r : AlphaRange) (i : Nat) : Nat :=
  ((steps - i) * r.min + i * r.max) / steps

/-- R703: the 8 codes of the 5-step topology: min, max, four interpolants, 0 and 255. -/
def alphaCodes5 (r : AlphaRange) : List Nat :=
  [r.min, r.max, alphaStep 5 r 1, alphaStep 5 r 2, alphaStep 5 r 3, alphaStep 5 r 4, 0, 255]

/-- R703: the 8 codes of the 7-step topology: min, max and six interpolants. -/
def alphaCodes7 (r : AlphaRange) : List Nat :=
  [r.min, r.max, alphaStep 7 r 1, alphaStep 7 r 2, alphaStep 7 r 3, alphaStep 7 r 4,
   alphaStep 7 r 5, alphaStep 7 r 6]

/-- The squared difference of two alpha values (R704). -/
def alphaDistance (a code : Nat) : Nat := ((a : Int) - (code : Int)).natAbs ^ 2

/-- R704: the search over the codes left, numbered from j, with the best index and its distance so
far; strict, so the lowest index wins a tie. -/
def alphaNearestFrom (a : Nat) : List Nat → Nat → Nat × Nat → Nat × Nat
  | [], _, best => best
  | code :: rest, j, best =>
    if alphaDistance a code < best.2 then alphaNearestFrom a rest (j + 1) (j, alphaDistance a code)
    else alphaNearestFrom a rest (j + 1) best

/-- R704 for one slot: its index and squared error; the first code is below the initial infinity. A
"don't care" slot takes index 0 and no error. -/
def alphaNearest (codes : List Nat) (a : Option Nat) : Nat × Nat :=
  match a, codes with
  | none, _ => (0, 0)
  | some _, [] => (0, 0)
  | some v, code :: rest => alphaNearestFrom v rest 1 (0, alphaDistance v code)

/-- R704: the indices under a topology's codes. -/
def alphaIndices (codes : List Nat) (as : List (Option Nat)) : List Nat :=
  as.map fun a => (alphaNearest codes a).1

/-- R704: the total squared error under a topology's codes. -/
def alphaError (codes : List Nat) (as : List (Option Nat)) : Nat :=
  (as.map fun a => (alphaNearest codes a).2).sum

/-- R705: a 7-step index in the 5-step index space. -/
def remapAlphaIndex (c : Nat) : Nat := if c = 0 then 1 else if c = 1 then 0 else 9 - c

/-- The outcome of R705. -/
structure AlphaChoice where
  err5   : Nat
  err7   : Nat
  sel7   : Bool
  range5 : AlphaRange
  range7 : AlphaRange
  a0     : Nat
  a1     : Nat
  ind    : List Nat
  deriving DecidableEq, Repr

/-- R705: the 7-step topology wins only with a strictly smaller error. -/
def chooseAlpha (as : List (Option Nat)) : AlphaChoice :=
  let r5 := alphaRange5 as
  let r7 := alphaRange7 as
  let err5 := alphaError (alphaCodes5 r5) as
  let err7 := alphaError (alphaCodes7 r7) as
  if err7 < err5 then
    ⟨err5, err7, true, r5, r7, r7.max, r7.min,
     (alphaIndices (alphaCodes7 r7) as).map remapAlphaIndex⟩
  else ⟨err5, err7, false, r5, r7, r5.min, r5.max, alphaIndices (alphaCodes5 r5) as⟩

/-- The 3-bit code of slot s of an index list. -/
def code3 (ind : List Nat) (s : Nat) : BitVec 3 := BitVec.ofNat 3 (ind.getD s 0)

/-- Eight 3-bit codes from slot `base` on, the first in the lowest bits (R312, R706). -/
def codeGroup (ind : List Nat) (base : Nat) : BitVec 24 :=
  code3 ind (base + 7) ++ code3 ind (base + 6) ++ code3 ind (base + 5) ++ code3 ind (base + 4) ++
    code3 ind (base + 3) ++ code3 ind (base + 2) ++ code3 ind (base + 1) ++ code3 ind base

/-- R706: the interpolated alpha block. -/
def packAlpha (a0 a1 : Nat) (ind : List Nat) : Block8 :=
  blockOfValue (codeGroup ind 8 ++ codeGroup ind 0 ++ BitVec.ofNat 8 a1 ++ BitVec.ofNat 8 a0)

/-- R701 to R706. -/
def alphaBlock (c : AlphaChoice) : Block8 := packAlpha c.a0 c.a1 c.ind

/-! ## Interpolated alpha decoder -/

/-- R707: the value of a 3-bit code. -/
def alphaOfCode (a0 a1 c : Nat) : Nat :=
  if c = 0 then a0
  else if c = 1 then a1
  else if a0 > a1 then ((8 - c) * a0 + (c - 1) * a1) / 7
  else if c = 6 then 0
  else if c = 7 then 255
  else ((6 - c) * a0 + (c - 1) * a1) / 5

/-- The 3-bit code of slot s of an interpolated alpha block (R312). -/
def storedCode (b : Block8) (s : Slot) : BitVec 3 :=
  (blockValue b).extractLsb' (16 + 3 * s.val) 3

/-- R707: `A[s]`. -/
def decodeAlphaInterp (b : Block8) (s : Slot) : Byte :=
  BitVec.ofNat 8 (alphaOfCode b[0].toNat b[1].toNat (storedCode b s).toNat)

/-! ## Explicit alpha -/

/-- R710: the 4-bit level of an alpha value; 0 for a "don't care" slot. -/
def alphaLevel (a : Option Nat) : Nat :=
  match a with
  | none => 0
  | some v => (v + 8) / 17

/-- The sum of the levels shifted to their nibbles, from slot s on (R710). -/
def levelSum : List (Option Nat) → Nat → Nat
  | [], _ => 0
  | a :: rest, s => (alphaLevel a <<< (4 * s)) + levelSum rest (s + 1)

/-- R710: the explicit alpha block. -/
def encodeAlphaExplicit (as : List (Option Nat)) : Block8 :=
  blockOfValue (BitVec.ofNat 64 (levelSum as 0))

/-- R711: `A[s]`. -/
def decodeAlphaExplicit (b : Block8) (s : Slot) : Byte :=
  BitVec.ofNat 8 (17 * ((blockValue b).extractLsb' (4 * s.val) 4).toNat)

end Sys2Proof.Machine
end

