-- ==== Sys2Proof/Machine/ColourDecoder.lean ====
section
/-! DEFINITION. The colour-block decoder (47_block_decoder.md R750 to R753). Every pattern decodes
(R754). -/

namespace Sys2Proof.Machine

/-- R750: the palette mode. -/
inductive PaletteMode where
  | four
  | dxt1
  deriving DecidableEq, Repr

/-- A decoded colour. -/
structure Rgba where
  r : Nat
  g : Nat
  b : Nat
  a : Nat
  deriving DecidableEq, Repr

/-- R751: color0. -/
def color0 (b : Block8) : BitVec 16 := b[1] ++ b[0]

/-- R751: color1. -/
def color1 (b : Block8) : BitVec 16 := b[3] ++ b[2]

/-- R751: the bit replications of the decoder. -/
def expand5 (q : Nat) : Nat := (q <<< 3) ||| (q >>> 2)
def expand6 (q : Nat) : Nat := (q <<< 2) ||| (q >>> 4)

/-- R751: an opaque colour from a packed endpoint. -/
def unpack565 (c : BitVec 16) : Rgba :=
  ⟨expand5 (c.extractLsb' 11 5).toNat, expand6 (c.extractLsb' 5 6).toNat,
   expand5 (c.extractLsb' 0 5).toNat, 255⟩

/-- An opaque colour made channel by channel (R752). -/
def blend (f : Nat → Nat → Nat) (p q : Rgba) : Rgba := ⟨f p.r q.r, f p.g q.g, f p.b q.b, 255⟩

/-- R752: whether the palette has four colours. -/
def fourColours (mode : PaletteMode) (c0 c1 : BitVec 16) : Bool :=
  mode == .four || decide (c1 < c0)

/-- R752: the palette colour of an index. -/
def paletteColour (mode : PaletteMode) (c0 c1 : BitVec 16) (i : BitVec 2) : Rgba :=
  let p0 := unpack565 c0
  let p1 := unpack565 c1
  match i with
  | 0 => p0
  | 1 => p1
  | 2 =>
    if fourColours mode c0 c1 then blend (fun x y => (2 * x + y) / 3) p0 p1
    else blend (fun x y => (x + y) / 2) p0 p1
  | 3 =>
    if fourColours mode c0 c1 then blend (fun x y => (x + 2 * y) / 3) p0 p1
    else ⟨0, 0, 0, 0⟩

/-- The stored index of slot s (30_encoding.md R310, R753). -/
def storedIndex (b : Block8) (s : Slot) : BitVec 2 :=
  (b[4 + s.val / 4]).extractLsb' (2 * (s.val % 4)) 2

/-- R751 to R753: the decoded colour of slot s. -/
def decodeColour (mode : PaletteMode) (b : Block8) (s : Slot) : Rgba :=
  paletteColour mode (color0 b) (color1 b) (storedIndex b s)

/-- The pixel word of a colour (10_state.md R117). -/
def rgbaWord (c : Rgba) : Word :=
  pixelWord (BitVec.ofNat 8 c.r) (BitVec.ofNat 8 c.g) (BitVec.ofNat 8 c.b) (BitVec.ofNat 8 c.a)

/-- The pixel word of a colour with its alpha replaced (R761, R762). -/
def rgbWithAlpha (c : Rgba) (a : Byte) : Word :=
  pixelWord (BitVec.ofNat 8 c.r) (BitVec.ofNat 8 c.g) (BitVec.ofNat 8 c.b) a

end Sys2Proof.Machine
end

