-- ==== Sys2Proof/Machine/DecodeCommands.lean ====
section
/-! DEFINITION. The decode commands (47_block_decoder.md R760 to R763, 46_alpha_codec.md R722, R723).
Each reads the latched BLK_IN, writes PIX_OUT and clears DIAG. -/

namespace Sys2Proof.Machine

/-- DEC_DXT1 (R760): BLK_IN[8..15] is ignored. -/
def execDecDxt1 (s : State) : Host.Outcome State Fault Refusal :=
  completeDecode
    (Vector.ofFn fun i => rgbaWord (decodeColour .dxt1 (lowHalf s.latch.blkIn) i)) s

/-- DEC_DXT3 (R761): explicit alpha from bytes 0..7, the colour half in mode FOUR. -/
def execDecDxt3 (s : State) : Host.Outcome State Fault Refusal :=
  completeDecode
    (Vector.ofFn fun i => rgbWithAlpha (decodeColour .four (highHalf s.latch.blkIn) i)
      (decodeAlphaExplicit (lowHalf s.latch.blkIn) i)) s

/-- DEC_DXT5 (R762): interpolated alpha from bytes 0..7, the colour half in mode FOUR. -/
def execDecDxt5 (s : State) : Host.Outcome State Fault Refusal :=
  completeDecode
    (Vector.ofFn fun i => rgbWithAlpha (decodeColour .four (highHalf s.latch.blkIn) i)
      (decodeAlphaInterp (lowHalf s.latch.blkIn) i)) s

/-- DEC_COLOR4 (R763): the colour half alone, in mode FOUR, A = 255. -/
def execDecColor4 (s : State) : Host.Outcome State Fault Refusal :=
  completeDecode
    (Vector.ofFn fun i => rgbWithAlpha (decodeColour .four (lowHalf s.latch.blkIn) i) 0xFF) s

/-- DEC_ALPHA_EXPLICIT (R722): R, G and B read 0. -/
def execDecAlphaExplicit (s : State) : Host.Outcome State Fault Refusal :=
  completeDecode
    (Vector.ofFn fun i => pixelWord 0 0 0 (decodeAlphaExplicit (lowHalf s.latch.blkIn) i)) s

/-- DEC_ALPHA_INTERP (R723): R, G and B read 0. -/
def execDecAlphaInterp (s : State) : Host.Outcome State Fault Refusal :=
  completeDecode
    (Vector.ofFn fun i => pixelWord 0 0 0 (decodeAlphaInterp (lowHalf s.latch.blkIn) i)) s

end Sys2Proof.Machine
end

