-- ==== Sys2Proof/Machine/Serializer.lean ====
section
/-! DEFINITION. Endpoint packing, index remapping and colour-block serialization
(45_serializer.md). -/

namespace Sys2Proof.Machine

/-- R650: `ClampToLimit(v, L)`. -/
def clampToLimit (v : F32) (limit : Nat) : Nat :=
  let r := toInt (fadd v cHalf)
  if r < 0 then 0 else if (limit : Int) < r then limit else r.toNat

/-- R310: a packed 5:6:5 colour, R in bits 15:11, G in 10:5, B in 4:0. -/
def pack565 (r g b : Nat) : BitVec 16 :=
  BitVec.ofNat 5 r ++ BitVec.ofNat 6 g ++ BitVec.ofNat 5 b

/-- R651: `ColorTo565(p)`. -/
def colorTo565 (p : V3) : BitVec 16 :=
  pack565 (clampToLimit (fmul c31 p.x) 31) (clampToLimit (fmul c63 p.y) 63)
    (clampToLimit (fmul c31 p.z) 31)

/-- R652: `RemapIndices(Map, src)`; a slot without a point gets index 3. -/
def remapIndices (map : List (Option Nat)) (src : List (BitVec 2)) : List (BitVec 2) :=
  map.map fun m =>
    match m with
    | none => 3
    | some i => src.getD i 0

/-- R653: the index of a slot after the order rule on the packed endpoints a and b. -/
def orderedIndex (a b : BitVec 16) (i : BitVec 2) : BitVec 2 :=
  if a < b then i ^^^ 1 else if a = b then 0 else i

/-- The index byte of row r: slot 4r + c at bits 2c+1 : 2c (R310). -/
def rowByte (idx : List (BitVec 2)) (r : Nat) : Byte :=
  idx.getD (4 * r + 3) 0 ++ idx.getD (4 * r + 2) 0 ++ idx.getD (4 * r + 1) 0 ++ idx.getD (4 * r) 0

/-- R653 on packed endpoints: the larger first. -/
def serializePacked (a b : BitVec 16) (idx : List (BitVec 2)) : Block8 :=
  let out := idx.map (orderedIndex a b)
  let hi := if a < b then b else a
  let lo := if a < b then a else b
  #v[hi.extractLsb' 0 8, hi.extractLsb' 8 8, lo.extractLsb' 0 8, lo.extractLsb' 8 8,
     rowByte out 0, rowByte out 1, rowByte out 2, rowByte out 3]

/-- R653. -/
def serialize (start stop : V3) (idx : List (BitVec 2)) : Block8 :=
  serializePacked (colorTo565 start) (colorTo565 stop) idx

end Sys2Proof.Machine
end

