-- ==== Sys2Proof/Machine/SingleColour.lean ====
section
/-! DEFINITION. The single-colour fit (41_single_color_tables.md R460 to R462, R464). -/

namespace Sys2Proof.Machine

/-- What a fitter hands on: the endpoints and the 16 slot indices. -/
structure Fit where
  start : V3
  stop  : V3
  idx   : List (BitVec 2)
  deriving DecidableEq, Repr

/-- R460: the 8-bit channel value of a point's lane. -/
def channelOf (c : F32) : Byte := BitVec.ofNat 8 (clampToLimit (fmul c255 c) 255)

/-- The three table triples of orientation o for a colour: LUT5, LUT6, LUT5 (R461). -/
structure Sources where
  r : LutTriple
  g : LutTriple
  b : LutTriple
  deriving DecidableEq, Repr

def sourcesOf (p : Params) (pt : V4) (o : Nat) : Sources :=
  ⟨orientation (lutEntry p.lut5 (channelOf pt.x)) o,
   orientation (lutEntry p.lut6 (channelOf pt.y)) o,
   orientation (lutEntry p.lut5 (channelOf pt.z)) o⟩

/-- R461: the sum of the squared per-channel errors. -/
def sourcesError (src : Sources) : Nat :=
  src.r.error.toNat ^ 2 + src.g.error.toNat ^ 2 + src.b.error.toNat ^ 2

/-- R461: whether orientation 1 replaces orientation 0. Orientation 0 is always taken first, its
error being below the initial infinity. -/
def orientationOneWins (tie : ScTie) (error0 error1 : Nat) : Bool :=
  match tie with
  | .second => decide (error1 ≤ error0)
  | .first => decide (error1 < error0)

/-- The orientation ComputeEndPoints ends with (R461). -/
def chosenOrientation (p : Params) (pt : V4) : Nat :=
  if orientationOneWins p.scTie (sourcesError (sourcesOf p pt 0)) (sourcesError (sourcesOf p pt 1))
  then 1 else 0

/-- The total error of the chosen orientation (R461, R464). -/
def chosenError (p : Params) (pt : V4) : Nat :=
  sourcesError (sourcesOf p pt (chosenOrientation p pt))

/-- R461, R462: table codes divided by their grid, every point at index 2*o. -/
def singleColourFit (p : Params) (pt : V4) (map : List (Option Nat)) : Fit :=
  let o := chosenOrientation p pt
  let src := sourcesOf p pt o
  { start := ⟨fdiv (f32OfNat src.r.start.toNat) c31, fdiv (f32OfNat src.g.start.toNat) c63,
      fdiv (f32OfNat src.b.start.toNat) c31⟩
    stop := ⟨fdiv (f32OfNat src.r.stop.toNat) c31, fdiv (f32OfNat src.g.stop.toNat) c63,
      fdiv (f32OfNat src.b.stop.toNat) c31⟩
    idx := remapIndices map [BitVec.ofNat 2 (2 * o)] }

end Sys2Proof.Machine
end

