-- ==== Sys2Proof/Machine/RangeFit.lean ====
section
/-! DEFINITION. Range-fit (43_range_fit.md R550 to R555). -/

namespace Sys2Proof.Machine

/-- The running extremes of R551. -/
structure Extremes where
  start : V3
  stop  : V3
  min   : F32
  max   : F32
  deriving DecidableEq, Repr

/-- R551, one point: strict comparisons, max tested only when min was not lowered. -/
def extremeStep (axis : V3) (e : Extremes) (p : V4) : Extremes :=
  let val := dot3 (xyz p) axis
  if flt val e.min then { e with start := xyz p, min := val }
  else if fgt val e.max then { e with stop := xyz p, max := val }
  else e

/-- R551: start and end of the points' projections on the axis. -/
def extremes (axis : V3) : List V4 → V3 × V3
  | [] => (zeroV3, zeroV3)
  | p :: ps =>
    let d := dot3 (xyz p) axis
    let e := ps.foldl (extremeStep axis) ⟨xyz p, xyz p, d, d⟩
    (e.start, e.stop)

/-- One lane of R553 on the grid g with reciprocal gr. -/
def quantLane (fused : Bool) (g gr v : F32) : F32 :=
  fmul (ftrunc (fmadd fused g (clamp01 v) cHalf)) gr

/-- R553: `quant3`. -/
def quant3 (fused : Bool) (v : V3) : V3 :=
  ⟨quantLane fused c31 cRcp31 v.x, quantLane fused c63 cRcp63 v.y, quantLane fused c31 cRcp31 v.z⟩

/-- R554: an interpolant with weight ws of start and we of end. -/
def interpolant (ws we : F32) (start stop : V3) : V3 :=
  zip3 fadd (map3 (fun c => fmul c ws) start) (map3 (fun c => fmul c we) stop)

/-- R554: the four codes. -/
def rangeCodes (start stop : V3) : List V3 :=
  [start, stop, interpolant cTwoThirds cOneThird start stop,
   interpolant cOneThird cTwoThirds start stop]

/-- R555: the squared distance of a point from a code; the metric 1.0 multiplies the difference. -/
def codeDistance (p : V4) (code : V3) : F32 :=
  let d := map3 (fun c => fmul c fone) (zip3 fsub (xyz p) code)
  dot3 d d

/-- R555: the search over the codes left, numbered from j; strict, so the lowest code wins a tie. -/
def nearestFrom (p : V4) : List V3 → Nat → F32 → Nat → Nat
  | [], _, _, best => best
  | code :: rest, j, bestDist, best =>
    let d := codeDistance p code
    if flt d bestDist then nearestFrom p rest (j + 1) d j
    else nearestFrom p rest (j + 1) bestDist best

/-- R555: `closest[i]`. -/
def nearestCode (codes : List V3) (p : V4) : BitVec 2 :=
  BitVec.ofNat 2 (nearestFrom p codes 0 cBig 0)

/-- R551 to R555. -/
def rangeFit (p : Params) (cs : ColourSet) (axis : V3) : Fit :=
  let ends := extremes axis cs.points
  let start := quant3 p.maddFused ends.1
  let stop := quant3 p.maddFused ends.2
  let codes := rangeCodes start stop
  { start := start, stop := stop,
    idx := remapIndices cs.map (cs.points.map (nearestCode codes)) }

end Sys2Proof.Machine
end

