-- ==== Sys2Proof/Machine/ClusterFit.lean ====
section
/-! DEFINITION. Cluster-fit (44_cluster_fit.md R600 to R612). -/

namespace Sys2Proof.Machine

/-! ## Constants (R601) -/

def cfTT : V4 := ⟨cTwoThirds, cTwoThirds, cTwoThirds, cFourNinths⟩
def cfOT : V4 := ⟨cOneThird, cOneThird, cOneThird, cOneNinth⟩
def cfTN : V4 := bcast cTwoNinths
def cfG4 : V4 := ⟨c31, c63, c31, fzero⟩
def cfGR4 : V4 := ⟨cRcp31, cRcp63, cRcp31, fzero⟩
def cfHalf4 : V4 := bcast cHalf
def cfTwo4 : V4 := bcast cTwo
def cfMetric : V4 := bcast fone
def vzero : V4 := bcast fzero

/-! ## Ordering (R603) -/

/-- Insertion of a point number with its projection into the sorted prefix, kept last first: it moves
left past strictly larger projections only. -/
def insertLast (d : F32) (i : Nat) : List (F32 × Nat) → List (F32 × Nat)
  | [] => [(d, i)]
  | q :: rest => if flt d q.1 then q :: insertLast d i rest else (d, i) :: q :: rest

/-- The points left, numbered from i, inserted one after another. -/
def insertAll (axis : V3) : List V4 → Nat → List (F32 × Nat) → List (F32 × Nat)
  | [], _, sorted => sorted
  | p :: ps, i, sorted => insertAll axis ps (i + 1) (insertLast (dot3 (xyz p) axis) i sorted)

/-- The order of the points along the axis: stable, ascending projection. -/
def pointOrder (axis : V3) (ps : List V4) : List Nat :=
  ((insertAll axis ps 0 []).reverse).map (fun q => q.2)

/-- `pw[t]`: the weighted point, its weight in lane w. -/
def weightedPoint (p : V4) : V4 := ⟨fmul p.w p.x, fmul p.w p.y, fmul p.w p.z, fmul p.w fone⟩

/-- `pw` for an order. -/
def weightedPoints (ps : List V4) (order : List Nat) : List V4 :=
  order.map fun i => weightedPoint (ps.getD i vzero)

/-- `xs`: the sum of `pw` in order. -/
def weightedTotal (pw : List V4) : V4 := pw.foldl vadd vzero

/-! ## Partitions (R605) -/

/-- The split points and the accumulated sums of runs 0 to 2. -/
structure Partition where
  i     : Nat
  j     : Nat
  k     : Nat
  part0 : V4
  part1 : V4
  part2 : V4
  deriving DecidableEq, Repr

/-- The innermost loop: k ascending to n over the points `rest` that follow run 2. -/
def partitionsK (i j : Nat) (part0 part1 : V4) : Nat → V4 → List V4 → List Partition
  | k, part2, [] => [⟨i, j, k, part0, part1, part2⟩]
  | k, part2, q :: rest =>
    ⟨i, j, k, part0, part1, part2⟩ :: partitionsK i j part0 part1 (k + 1) (vadd q part2) rest

/-- The start of the innermost loop; with j = 0 it begins at k = 1 with run 2 = pw[0]. `rest` is
pw[j..]. -/
def startK (i j : Nat) (part0 part1 : V4) (rest : List V4) : List Partition :=
  match j, rest with
  | 0, q :: rest' => partitionsK i 0 part0 part1 1 q rest'
  | _, _ => partitionsK i j part0 part1 j vzero rest

/-- The middle loop: j ascending to n; `rest` is pw[j..]. -/
def partitionsJ (i : Nat) (part0 : V4) : Nat → V4 → List V4 → List Partition
  | j, part1, [] => startK i j part0 part1 []
  | j, part1, q :: rest =>
    startK i j part0 part1 (q :: rest) ++ partitionsJ i part0 (j + 1) (vadd q part1) rest

/-- The outer loop: i ascending to n - 1; `rest` is pw[i..]. -/
def partitionsI : Nat → V4 → List V4 → List Partition
  | _, _, [] => []
  | i, part0, q :: rest =>
    partitionsJ i part0 i vzero (q :: rest) ++ partitionsI (i + 1) (vadd q part0) rest

/-- R605: the partitions of one pass in visiting order. -/
def partitions (pw : List V4) : List Partition := partitionsI 0 vzero pw

/-! ## Evaluation (R606 to R608) -/

/-- The sums and endpoints of the closed form, `a` and `b` before quantisation (R606). -/
structure Solve where
  ax : V4
  bx : V4
  a2 : V4
  b2 : V4
  ab : V4
  a  : V4
  b  : V4
  deriving DecidableEq, Repr

/-- R606. -/
def solve (p : Params) (xs : V4) (t : Partition) : Solve :=
  let fused := p.maddFused
  let part3 := vsub (vsub (vsub xs t.part2) t.part1) t.part0
  let ax := vmadd fused t.part2 cfOT (vmadd fused t.part1 cfTT t.part0)
  let a2 := splatW ax
  let bx := vmadd fused t.part1 cfOT (vmadd fused t.part2 cfTT part3)
  let b2 := splatW bx
  let ab := vmul cfTN (splatW (vadd t.part1 t.part2))
  let fac := map4 (rcpCf p) (vnmsub fused ab ab (vmul a2 b2))
  { ax := ax, bx := bx, a2 := a2, b2 := b2, ab := ab
    a := vmul (vnmsub fused bx ab (vmul ax b2)) fac
    b := vmul (vnmsub fused ax ab (vmul bx a2)) fac }

/-- R607: quantisation to the 5:6:5 grid, on all four lanes. -/
def quant4 (fused : Bool) (v : V4) : V4 :=
  vmul (vtrunc (vmadd fused cfG4 (vclamp v) cfHalf4)) cfGR4

/-- R608: the error of quantised endpoints a and b. -/
def partitionError (fused : Bool) (r : Solve) (a b : V4) : F32 :=
  let e1 := vmadd fused (vmul a a) r.a2 (vmul (vmul b b) r.b2)
  let e2 := vnmsub fused b r.bx (vnmsub fused a r.ax (vmul (vmul a b) r.ab))
  let e3 := vmul (vmadd fused cfTwo4 e2 e1) cfMetric
  fadd (fadd e3.x e3.y) e3.z

/-- An evaluated partition. -/
structure Candidate where
  i     : Nat
  j     : Nat
  k     : Nat
  start : V3
  stop  : V3
  error : F32
  deriving DecidableEq, Repr

/-- R606 to R608. -/
def evaluate (p : Params) (xs : V4) (t : Partition) : Candidate :=
  let r := solve p xs t
  let a := quant4 p.maddFused r.a
  let b := quant4 p.maddFused r.b
  ⟨t.i, t.j, t.k, xyz a, xyz b, partitionError p.maddFused r a b⟩

/-! ## The best record (R602, R609, R612) -/

structure Best where
  error : F32
  start : V3
  stop  : V3
  i     : Nat
  j     : Nat
  k     : Nat
  iter  : Nat
  deriving DecidableEq, Repr

/-- R602: the initial record. -/
def Best.initial : Best := ⟨cBig, zeroV3, zeroV3, 0, 0, 0, 0⟩

/-- R609: a strictly smaller error replaces the record; a NaN error never does. -/
def updateBest (it : Nat) (best : Best) (c : Candidate) : Best :=
  if flt c.error best.error then ⟨c.error, c.start, c.stop, c.i, c.j, c.k, it⟩ else best

/-- One pass with PARAM_CF_TIE = serial. -/
def passSerial (it : Nat) (best : Best) (cs : List Candidate) : Best :=
  cs.foldl (updateBest it) best

/-- The partitions of a pass whose error equals m (R612). -/
def tiesOf (m : F32) (cs : List Candidate) : List Candidate := cs.filter fun c => feq c.error m

/-- One pass with PARAM_CF_TIE = any (R612): the error, the iteration and whether the pass improved
are as under serial; which of the equal-error partitions is kept is the free value `pick`. -/
def passAny (pick it : Nat) (best : Best) (cs : List Candidate) : Best :=
  let serial := passSerial it best cs
  if cs.any fun c => flt c.error best.error then
    let ties := tiesOf serial.error cs
    match ties[pick % ties.length]? with
    | some c => { serial with start := c.start, stop := c.stop, i := c.i, j := c.j, k := c.k }
    | none => serial
  else serial

/-- One pass over the points in an order (R605 to R609, R612); `draw` counts earlier free choices. -/
def runPass (p : Params) (draw : Nat) (ps : List V4) (order : List Nat) (it : Nat) (best : Best) :
    Best :=
  let pw := weightedPoints ps order
  let cs := (partitions pw).map (evaluate p (weightedTotal pw))
  match p.cfTie with
  | .serial => passSerial it best cs
  | .any => passAny (Config.cfTiePick draw it) it best cs

/-! ## Passes (R611) and the final indices (R610) -/

/-- The best record after the last pass, the orders tried, pass 0 first, and the number of passes. -/
structure ClusterResult where
  best   : Best
  orders : List (List Nat)
  passes : Nat
  deriving DecidableEq, Repr

/-- R611 from pass `it` on, with `order` the ordering of this pass and `earlier` those before it;
`left` passes are left below the cap of 8. The exits in order: no improvement, the cap, a repeated
order. -/
def passes (p : Params) (draw : Nat) (ps : List V4) :
    Nat → Nat → List (List Nat) → List Nat → Best → ClusterResult
  | 0, it, earlier, order, best => ⟨best, earlier ++ [order], it⟩
  | left + 1, it, earlier, order, best =>
    let best' := runPass p draw ps order it best
    let tried := earlier ++ [order]
    if best'.iter ≠ it ∨ left = 0 then ⟨best', tried, it + 1⟩
    else
      let next := pointOrder (zip3 fsub best'.stop best'.start) ps
      if tried.contains next then ⟨best', tried, it + 1⟩
      else passes p draw ps left (it + 1) tried next best'

/-- R603, R605 to R611: the search from the principal axis. -/
def clusterSearch (p : Params) (draw : Nat) (ps : List V4) (axis : V3) : ClusterResult :=
  passes p draw ps 8 0 [] (pointOrder axis ps) Best.initial

/-- R610: the index of the t-th point of the best order. -/
def runIndex (b : Best) (t : Nat) : BitVec 2 :=
  if t < b.i then 0 else if t < b.j then 2 else if t < b.k then 3 else 1

/-- R610: `un`, the index of every point, by its place in the best order. -/
def pointIndices (b : Best) (order : List Nat) (n : Nat) : List (BitVec 2) :=
  (List.range n).map fun i => runIndex b (order.idxOf i)

/-- R600, R610: the fit of a search result. -/
def clusterFit (cs : ColourSet) (r : ClusterResult) : Fit :=
  { start := r.best.start, stop := r.best.stop,
    idx := remapIndices cs.map
      (pointIndices r.best (r.orders.getD r.best.iter []) cs.points.length) }

end Sys2Proof.Machine
end

