-- ==== Sys2Proof/Machine/EncodeCommands.lean ====
section
/-! DEFINITION. The encode commands and NOP (48_encoder_commands.md, 46_alpha_codec.md R720, R721).
Each encode reads the latched PIX_IN and VALID, writes BLK_OUT and its DIAG fields. -/

namespace Sys2Proof.Machine

/-- The fitter that R800 selects for n points; FITTER of DIAG_FIT (10_state.md R106). -/
inductive Fitter where
  | singleColour
  | range
  | cluster
  deriving DecidableEq, Repr

/-- R800: one point is fitted alone whatever CF holds; no point goes to range-fit. -/
def fitterFor (cf : Bool) (n : Nat) : Fitter :=
  if n = 1 then .singleColour else if cf && decide (2 ≤ n) then .cluster else .range

/-- The colour half of an encode: its 8 bytes, the colour-fit DIAG registers (R805), and how many
free choices cluster-fit drew. -/
structure ColourHalf where
  bytes : Block8
  diag  : Diag
  draws : Nat
  deriving DecidableEq, Repr

/-- How many free choices a cluster-fit draws: none under PARAM_CF_TIE = serial (log 5). -/
def drawsOf (tie : CfTie) : Nat :=
  match tie with
  | .serial => 0
  | .any => 1

def serializeFit (f : Fit) : Block8 := serialize f.start f.stop f.idx

/-- R800 with the single-colour fit, and its DIAG fields (41_single_color_tables.md R464). -/
def singleColourHalf (p : Params) (cs : ColourSet) : ColourHalf :=
  let pt := cs.points.headD vzero
  { bytes := serializeFit (singleColourFit p pt cs.map)
    diag := { Diag.zero with
      fit := diagFitWord 1 cs.points.length 0 (chosenOrientation p pt)
      scErr := BitVec.ofNat 32 (chosenError p pt) }
    draws := 0 }

/-- R800 with range-fit, and its DIAG fields (43_range_fit.md R556). -/
def rangeHalf (p : Params) (cs : ColourSet) : ColourHalf :=
  { bytes := serializeFit (rangeFit p cs (principalAxis p cs.points))
    diag := { Diag.zero with fit := diagFitWord 2 cs.points.length 0 0 }
    draws := 0 }

/-- R800 with cluster-fit, and its DIAG fields (44_cluster_fit.md R616). -/
def clusterHalf (p : Params) (draw : Nat) (cs : ColourSet) : ColourHalf :=
  let r := clusterSearch p draw cs.points (principalAxis p cs.points)
  { bytes := serializeFit (clusterFit cs r)
    diag := { Diag.zero with
      fit := diagFitWord 3 cs.points.length r.passes 0
      cfErr := r.best.error
      cfBest := diagCfBestWord r.best.i r.best.j r.best.k r.best.iter }
    draws := drawsOf p.cfTie }

/-- R800: the colour pipeline on a latch. -/
def colourHalf (p : Params) (draw : Nat) (l : Latch) (mode : BuilderMode) (cf wa : Bool) :
    ColourHalf :=
  let cs := colourSet l mode wa
  match fitterFor cf cs.points.length with
  | .singleColour => singleColourHalf p cs
  | .range => rangeHalf p cs
  | .cluster => clusterHalf p draw cs

/-- The colour half that a state's latch gives. -/
def colourOf (s : State) (mode : BuilderMode) (cf wa : Bool) : ColourHalf :=
  colourHalf s.params s.freeTies s.latch mode cf wa

/-- The alpha fields of DIAG added (46_alpha_codec.md R705, 48_encoder_commands.md R805). -/
def withAlphaDiag (c : AlphaChoice) (d : Diag) : Diag :=
  { d with
    aErr5 := BitVec.ofNat 32 c.err5
    aErr7 := BitVec.ofNat 32 c.err7
    aSel := diagASelWord c.sel7
    aRange := diagARangeWord c.range5.min c.range5.max c.range7.min c.range7.max }

/-- The state with the free choices of a colour half marked as drawn (log 5). -/
def noteDraws (h : ColourHalf) (s : State) : State := setFreeTies (s.freeTies + h.draws) s

/-- NOP (R804): only STATUS changes. -/
def execNop (s : State) : Host.Outcome State Fault Refusal := .next (finish s)

/-- ENC_DXT1 (R801). -/
def execEncDxt1 (cf wa a1 : Bool) (s : State) : Host.Outcome State Fault Refusal :=
  let h := colourOf s (if a1 then .dxt1a else .dxt1) cf wa
  completeEncode (joinHalves h.bytes zeroHalf) h.diag (noteDraws h s)

/-- ENC_DXT3 (R802). -/
def execEncDxt3 (cf wa : Bool) (s : State) : Host.Outcome State Fault Refusal :=
  let h := colourOf s .dxt5 cf wa
  completeEncode (joinHalves (encodeAlphaExplicit (alphaList s.latch)) h.bytes) h.diag
    (noteDraws h s)

/-- ENC_DXT5 (R803). -/
def execEncDxt5 (cf wa : Bool) (s : State) : Host.Outcome State Fault Refusal :=
  let h := colourOf s .dxt5 cf wa
  let c := chooseAlpha (alphaList s.latch)
  completeEncode (joinHalves (alphaBlock c) h.bytes) (withAlphaDiag c h.diag) (noteDraws h s)

/-- ENC_ALPHA_EXPLICIT (R720): R, G and B are ignored. -/
def execEncAlphaExplicit (s : State) : Host.Outcome State Fault Refusal :=
  completeEncode (joinHalves (encodeAlphaExplicit (alphaList s.latch)) zeroHalf) Diag.zero s

/-- ENC_ALPHA_INTERP (R721): R, G and B are ignored. -/
def execEncAlphaInterp (s : State) : Host.Outcome State Fault Refusal :=
  let c := chooseAlpha (alphaList s.latch)
  completeEncode (joinHalves (alphaBlock c) zeroHalf) (withAlphaDiag c Diag.zero) s

end Sys2Proof.Machine
end

