-- ==== Sys2Proof/Machine/Primitives.lean ====
section
/-! DEFINITION. The primitive commands (40_vector_primitives.md section 2): each works on the latched
VA, VB, VC, writes VR and clears DIAG; NaN and infinity are ordinary values. -/

namespace Sys2Proof.Machine

/-- VADD4 (R420). -/
def execVadd4 (s : State) : Host.Outcome State Fault Refusal :=
  completePrimitive (vadd s.latch.va s.latch.vb) s

/-- VSUB4 (R421). -/
def execVsub4 (s : State) : Host.Outcome State Fault Refusal :=
  completePrimitive (vsub s.latch.va s.latch.vb) s

/-- VMUL4 (R422). -/
def execVmul4 (s : State) : Host.Outcome State Fault Refusal :=
  completePrimitive (vmul s.latch.va s.latch.vb) s

/-- VMADD4 (R423, R404). -/
def execVmadd4 (s : State) : Host.Outcome State Fault Refusal :=
  completePrimitive (vmadd s.params.maddFused s.latch.va s.latch.vb s.latch.vc) s

/-- VNMSUB4 (R424, R405). -/
def execVnmsub4 (s : State) : Host.Outcome State Fault Refusal :=
  completePrimitive (vnmsub s.params.maddFused s.latch.va s.latch.vb s.latch.vc) s

/-- VCLAMP4 (R425, R406). -/
def execVclamp4 (s : State) : Host.Outcome State Fault Refusal :=
  completePrimitive (vclamp s.latch.va) s

/-- VTRUNC4 (R426, R407). -/
def execVtrunc4 (s : State) : Host.Outcome State Fault Refusal :=
  completePrimitive (vtrunc s.latch.va) s

/-- VRECIP4 (R427, R408): unguarded whatever PARAM_RECIP_GUARD holds. -/
def execVrecip4 (s : State) : Host.Outcome State Fault Refusal :=
  completePrimitive (vrecip s.latch.va) s

/-- VADD3 (R430). -/
def execVadd3 (s : State) : Host.Outcome State Fault Refusal :=
  completePrimitive (withZeroW (zip3 fadd (xyz s.latch.va) (xyz s.latch.vb))) s

/-- VSUB3 (R431). -/
def execVsub3 (s : State) : Host.Outcome State Fault Refusal :=
  completePrimitive (withZeroW (zip3 fsub (xyz s.latch.va) (xyz s.latch.vb))) s

/-- VMUL3 (R432). -/
def execVmul3 (s : State) : Host.Outcome State Fault Refusal :=
  completePrimitive (withZeroW (zip3 fmul (xyz s.latch.va) (xyz s.latch.vb))) s

/-- VMADD3 (R433). -/
def execVmadd3 (s : State) : Host.Outcome State Fault Refusal :=
  completePrimitive
    (withZeroW (zipc3 (fmadd s.params.maddFused) (xyz s.latch.va) (xyz s.latch.vb)
      (xyz s.latch.vc))) s

/-- VNMSUB3 (R434). -/
def execVnmsub3 (s : State) : Host.Outcome State Fault Refusal :=
  completePrimitive
    (withZeroW (zipc3 (fnmsub s.params.maddFused) (xyz s.latch.va) (xyz s.latch.vb)
      (xyz s.latch.vc))) s

/-- VCLAMP3 (R435). -/
def execVclamp3 (s : State) : Host.Outcome State Fault Refusal :=
  completePrimitive (withZeroW (map3 clamp01 (xyz s.latch.va))) s

/-- VTRUNC3 (R436). -/
def execVtrunc3 (s : State) : Host.Outcome State Fault Refusal :=
  completePrimitive (withZeroW (map3 ftrunc (xyz s.latch.va))) s

/-- VRECIP3 (R437). -/
def execVrecip3 (s : State) : Host.Outcome State Fault Refusal :=
  completePrimitive (withZeroW (map3 recip (xyz s.latch.va))) s

/-- VDOT3 (R438, R402). -/
def execVdot3 (s : State) : Host.Outcome State Fault Refusal :=
  completePrimitive (scalarResult (dot3 (xyz s.latch.va) (xyz s.latch.vb))) s

/-- PRECIP (R439, R411). -/
def execPrecip (s : State) : Host.Outcome State Fault Refusal :=
  completePrimitive (scalarResult (precip s.params.recipEps s.latch.va.x)) s

end Sys2Proof.Machine
end

