-- ==== Sys2Proof/Machine/Dispatch.lean ====
section
/-! DEFINITION. The meaning of each command: the engine's complete step of 60_exceptions.md R903 on
the latch. -/

namespace Sys2Proof.Machine

def exec (i : Instr) (s : State) : Host.Outcome State Fault Refusal :=
  match i with
  | .nop => Sys2Proof.Machine.execNop s
  | .encDxt1 cf wa a1 => Sys2Proof.Machine.execEncDxt1 cf wa a1 s
  | .encDxt3 cf wa => Sys2Proof.Machine.execEncDxt3 cf wa s
  | .encDxt5 cf wa => Sys2Proof.Machine.execEncDxt5 cf wa s
  | .encAlphaExplicit => Sys2Proof.Machine.execEncAlphaExplicit s
  | .encAlphaInterp => Sys2Proof.Machine.execEncAlphaInterp s
  | .decDxt1 => Sys2Proof.Machine.execDecDxt1 s
  | .decDxt3 => Sys2Proof.Machine.execDecDxt3 s
  | .decDxt5 => Sys2Proof.Machine.execDecDxt5 s
  | .decAlphaExplicit => Sys2Proof.Machine.execDecAlphaExplicit s
  | .decAlphaInterp => Sys2Proof.Machine.execDecAlphaInterp s
  | .decColor4 => Sys2Proof.Machine.execDecColor4 s
  | .vadd4 => Sys2Proof.Machine.execVadd4 s
  | .vsub4 => Sys2Proof.Machine.execVsub4 s
  | .vmul4 => Sys2Proof.Machine.execVmul4 s
  | .vmadd4 => Sys2Proof.Machine.execVmadd4 s
  | .vnmsub4 => Sys2Proof.Machine.execVnmsub4 s
  | .vclamp4 => Sys2Proof.Machine.execVclamp4 s
  | .vtrunc4 => Sys2Proof.Machine.execVtrunc4 s
  | .vrecip4 => Sys2Proof.Machine.execVrecip4 s
  | .vadd3 => Sys2Proof.Machine.execVadd3 s
  | .vsub3 => Sys2Proof.Machine.execVsub3 s
  | .vmul3 => Sys2Proof.Machine.execVmul3 s
  | .vmadd3 => Sys2Proof.Machine.execVmadd3 s
  | .vnmsub3 => Sys2Proof.Machine.execVnmsub3 s
  | .vclamp3 => Sys2Proof.Machine.execVclamp3 s
  | .vtrunc3 => Sys2Proof.Machine.execVtrunc3 s
  | .vrecip3 => Sys2Proof.Machine.execVrecip3 s
  | .vdot3 => Sys2Proof.Machine.execVdot3 s
  | .precip => Sys2Proof.Machine.execPrecip s

end Sys2Proof.Machine
end

