-- ==== Sys2Proof/Machine/Step.lean ====
section
/-! DEFINITION. One step of the engine among its surroundings (10_state.md R100): the host's accesses
and the engine's complete step in the order that the pending events give, and where none is pending
the complete step whenever it is enabled (70_reset_and_hazards.md R958: a command in progress is
completed in the end; log 7). There is no program counter and no fetch (R125): the command word is the one
the latch holds. -/

namespace Sys2Proof.Machine

/-- The engine's complete step (60_exceptions.md R903), enabled while STATUS.BUSY = 1; where it is not
enabled nothing happens. -/
def engineStep (s : State) : Host.Outcome State Fault Refusal :=
  if s.status.busy then
    match decodeWord s.latch.cmd with
    | .ok i => exec i s
    | .error _ => .fault .latchHoldsNoCommand
  else .next s

/-- One step: the first pending event happens, or with none pending the engine moves. -/
def step (s : State) : Host.Outcome State Fault Refusal :=
  match s.inputs with
  | [] => engineStep s
  | .complete :: rest => engineStep (setInputs rest s)
  | .read off size :: rest => hostRead off size (setInputs rest s)
  | .write off size v :: rest => hostWrite off size v (setInputs rest s)
  | .reset :: rest => .next (platformReset (setInputs rest s))

/-- `s` as the acceptance of the command word `w` leaves it (60_exceptions.md R901), with the engine's
complete step as the next event, so that the next step runs exactly that command (log 1). -/
def State.withFetchWord (s : State) (nbits w : Nat) : State :=
  setInputs (.complete :: s.inputs) (accept (BitVec.ofNat 32 (w % 2 ^ nbits)) s)

end Sys2Proof.Machine
end

