-- ==== Sys2Proof/Safety.lean ====
section
/-! DEFINITION. What a good state is, in the terms the statements use, and what it means for a step to
be safe. -/

namespace Sys2Proof.Safety

open Sys2Proof.Machine

/-- Whether a word is a command (30_encoding.md R302). -/
def isCommand (w : Word) : Bool :=
  match decodeWord w with
  | .ok _ => true
  | .error _ => false

/-- 10_state.md R103: BUSY and DONE are never both 1; 60_exceptions.md R900: ERRCODE 4..15 is never
produced. -/
def statusOk (st : Status) : Bool :=
  !(st.busy && st.done) && decide (st.errcode.toNat ≤ 3)

/-- CMD holds an accepted command, and while BUSY it is the latched one (10_state.md R102, R122). -/
def commandOk (s : State) : Bool :=
  isCommand s.cmd && (!s.status.busy || s.latch.cmd == s.cmd)

/-- The reserved bits of DIAG_FIT, DIAG_CF_BEST and DIAG_ASEL read 0, NPOINTS is at most 16 and
CF_PASSES at most 8, FITTER decides which of its neighbours may be non-zero (10_state.md R106 to R109,
R111), and the alpha errors are at most 16 * 255^2 (46_alpha_codec.md R704). -/
def diagOk (d : Diag) : Bool :=
  d.fit &&& 0xFFFE0E0C == 0 && d.cfBest &&& 0xF8E0E0E0 == 0 && d.aSel &&& 0xFFFFFFFE == 0 &&
  decide ((d.fit.extractLsb' 4 5).toNat ≤ 16) && decide ((d.fit.extractLsb' 12 4).toNat ≤ 8) &&
  (d.fit.extractLsb' 0 2 == 1 || (d.fit.extractLsb' 16 1 == 0 && d.scErr == 0)) &&
  (d.fit.extractLsb' 0 2 == 3 ||
    (d.fit.extractLsb' 12 4 == 0 && d.cfErr == 0 && d.cfBest == 0)) &&
  decide (d.aErr5.toNat ≤ 1040400) && decide (d.aErr7.toNat ≤ 1040400)

/-- The invariant of every reachable state. -/
def consistent (s : State) : Bool :=
  statusOk s.status && commandOk s && diagOk s.diag && WellFormed.params s.params

/-- A pending event is one a host or the platform can cause (20_memory.md R201). -/
def eventOk : Event → Bool
  | .read off size => WellFormed.access off size
  | .write off size _ => WellFormed.access off size
  | .complete => true
  | .reset => true

/-- Every pending event is one the spec defines. -/
def inputsOk (s : State) : Bool := s.inputs.all eventOk

/-- A step that neither faults nor is refused. -/
def safeStep (s : State) : Prop := ∃ t, step s = .next t

end Sys2Proof.Safety
end

