-- ==== Sys2Proof/Certificates/Slice0/Obligations.lean ====
section
/-! DEFINITION. The statements for the provers, and the few names they are written with. -/

namespace Sys2Proof.Statements

open Sys2Proof Sys2Proof.Machine

/-- The state after a primitive command with result v: every other field is as before. -/
def afterPrimitive (s : State) (v : V4) : State :=
  { s with
    vr := v, diag := ⟨0, 0, 0, 0, 0, 0, 0, 0⟩
    status := { busy := false, done := true, errcode := s.status.errcode } }

/-- The state after a decode command with these pixels. -/
def afterDecode (s : State) (f : Slot → Word) : State :=
  { s with
    pixOut := Vector.ofFn f, diag := ⟨0, 0, 0, 0, 0, 0, 0, 0⟩
    status := { busy := false, done := true, errcode := s.status.errcode } }

/-- The state after an encode command: block, diagnostic registers, free choices drawn. -/
def afterEncode (s : State) (b : Block16) (d : Diag) (draws : Nat) : State :=
  { s with
    blkOut := b, diag := d, freeTies := s.freeTies + draws
    status := { busy := false, done := true, errcode := s.status.errcode } }

/-- The commands that write BLK_OUT (30_encoding.md R305). -/
def isEncode : Instr → Bool
  | .encDxt1 _ _ _ => true
  | .encDxt3 _ _ => true
  | .encDxt5 _ _ => true
  | .encAlphaExplicit => true
  | .encAlphaInterp => true
  | _ => false

/-- The commands that write PIX_OUT (30_encoding.md R305). -/
def isDecode : Instr → Bool
  | .decDxt1 => true
  | .decDxt3 => true
  | .decDxt5 => true
  | .decAlphaExplicit => true
  | .decAlphaInterp => true
  | .decColor4 => true
  | _ => false

/-- The commands that write VR (30_encoding.md R305): the rest, but for NOP. -/
def isPrimitive (i : Instr) : Bool := !isEncode i && !isDecode i && i != .nop

/-- The OPC values of 30_encoding.md R301. -/
def listedOpcodes : List Word :=
  [0x00, 0x01, 0x02, 0x03, 0x04, 0x05, 0x08, 0x09, 0x0A, 0x0B, 0x0C, 0x0D,
   0x20, 0x21, 0x22, 0x23, 0x24, 0x25, 0x26, 0x27,
   0x30, 0x31, 0x32, 0x33, 0x34, 0x35, 0x36, 0x37, 0x38, 0x39]

/-- mask(opc) of 60_exceptions.md R901. -/
def opcodeMask (opc : Word) : Word :=
  if opc = 0x01 then 0xFFFFF8FF
  else if opc = 0x02 ∨ opc = 0x03 then 0xFFFFFCFF
  else 0xFFFFFFFF

/-- Byte k of a block as a number. -/
def byteNat (b : Block8) (k : Nat) : Nat := (b.toList.getD k 0).toNat

/-- Bit replication in numbers: 8q + q/4 for a 5-bit q, 4q + q/16 for a 6-bit q
(47_block_decoder.md R751). -/
def rep5 (q : Nat) : Nat := 8 * q + q / 4
def rep6 (q : Nat) : Nat := 4 * q + q / 16

/-- The three channels of a packed 5:6:5 number (47_block_decoder.md R751). -/
def unpackedChannels (c : Nat) : Nat × Nat × Nat :=
  (rep5 (c / 2048), rep6 (c / 32 % 64), rep5 (c % 32))

/-- One channel of the palette (47_block_decoder.md R752). -/
def paletteChannel (four : Bool) (idx x y : Nat) : Nat :=
  if idx = 0 then x
  else if idx = 1 then y
  else if four then (if idx = 2 then (2 * x + y) / 3 else (x + 2 * y) / 3)
  else (if idx = 2 then (x + y) / 2 else 0)

/-- The squared distance of a decoded colour from three channel values. -/
def colourDistance (c : Rgba) (r g b : Nat) : Nat :=
  ((c.r : Int) - r).natAbs ^ 2 + ((c.g : Int) - g).natAbs ^ 2 + ((c.b : Int) - b).natAbs ^ 2

/-- The colour fit and its diagnostic registers that 48_encoder_commands.md R800 and R805 give for a
colour set. -/
def pipelineFit (p : Params) (draw : Nat) (cs : ColourSet) (cf : Bool) : Fit :=
  if cs.points.length = 1 then singleColourFit p (cs.points.headD vzero) cs.map
  else if cf = true ∧ 2 ≤ cs.points.length then
    clusterFit cs (clusterSearch p draw cs.points (principalAxis p cs.points))
  else rangeFit p cs (principalAxis p cs.points)

def pipelineDiag (p : Params) (draw : Nat) (cs : ColourSet) (cf : Bool) : Diag :=
  if cs.points.length = 1 then
    { fit := BitVec.ofNat 32 (1 + 2 ^ 4 + 2 ^ 16 * chosenOrientation p (cs.points.headD vzero))
      scErr := BitVec.ofNat 32 (chosenError p (cs.points.headD vzero))
      cfErr := 0, cfBest := 0, aErr5 := 0, aErr7 := 0, aSel := 0, aRange := 0 }
  else if cf = true ∧ 2 ≤ cs.points.length then
    let r := clusterSearch p draw cs.points (principalAxis p cs.points)
    { fit := BitVec.ofNat 32 (3 + 2 ^ 4 * cs.points.length + 2 ^ 12 * r.passes)
      cfErr := r.best.error
      cfBest := BitVec.ofNat 32
        (r.best.i + 2 ^ 8 * r.best.j + 2 ^ 16 * r.best.k + 2 ^ 24 * r.best.iter)
      scErr := 0, aErr5 := 0, aErr7 := 0, aSel := 0, aRange := 0 }
  else
    { fit := BitVec.ofNat 32 (2 + 2 ^ 4 * cs.points.length)
      cfErr := 0, cfBest := 0, scErr := 0, aErr5 := 0, aErr7 := 0, aSel := 0, aRange := 0 }

/-- The free choices an encode draws: only cluster-fit under PARAM_CF_TIE = any does. -/
def pipelineDraws (p : Params) (cs : ColourSet) (cf : Bool) : Nat :=
  if p.cfTie = .any ∧ cf = true ∧ 2 ≤ cs.points.length then 1 else 0

/-- Whether two latches agree on what the commands read. -/
def sameLatch (s1 s2 : State) : Prop :=
  s1.latch = s2.latch ∧ s1.params = s2.params ∧ s1.freeTies = s2.freeTies

/-- The pixel word of four channel numbers (10_state.md R114, R117). -/
def pixelNumber (r g b a : Nat) : Word := BitVec.ofNat 32 (r + 256 * g + 65536 * b + 2 ^ 24 * a)

/-- Channel k of a pixel word as a number: 0 R, 1 G, 2 B, 3 A (10_state.md R114). -/
def channelNat (p : Word) (k : Nat) : Nat := p.toNat / 256 ^ k % 256

/-- The R, G and B numbers of a pixel word. -/
def rgbOf (p : Word) : Nat × Nat × Nat := (channelNat p 0, channelNat p 1, channelNat p 2)

/-- Word m of a buffer as a number (20_memory.md R202). -/
def bufferNat (b : Block16) (m : Fin 4) : Nat :=
  (b[4 * m.val]).toNat + 256 * (b[4 * m.val + 1]).toNat + 65536 * (b[4 * m.val + 2]).toNat +
    2 ^ 24 * (b[4 * m.val + 3]).toNat

/-- What one pixel adds to the weight of its point (42_color_set_builder.md R503). -/
def weightOf (wa : Bool) (p : Word) : F32 :=
  if wa = true then fdiv (f32OfNat (channelNat p 3 + 1)) 0x43800000 else 0x3F800000

/-- The weights that the slots of point n add, in raster order (42_color_set_builder.md R504). -/
def weightsOf (l : Latch) (wa : Bool) (map : List (Option Nat)) (n : Nat) : List F32 :=
  ((List.finRange 16).filter fun i => map[i.val]? == some (some n)).map fun i => weightOf wa l.pixIn[i]

/-- Whether a pattern is finite. -/
def finite (x : F32) : Prop := fmag x < 0x7F800000

/-- The pattern nearest to the integer z of 1/den units; z is not 0. -/
def nearest (z : Int) (den : Nat) : F32 :=
  fpack (decide (z < 0)) (roundMag binary32 z.natAbs den)

/-- Whether an exact product of a and b is negative, zeros and infinities included. -/
def productNegative (a b : F32) : Bool := fsign a != fsign b

/-- A colour on the 5:6:5 grid: a level of 31, of 63 and of 31, each times its rounded reciprocal
(43_range_fit.md R553, 44_cluster_fit.md R607). -/
def gridColour (c : V3) : Prop :=
  ∃ r g b : Nat, r ≤ 31 ∧ g ≤ 63 ∧ b ≤ 31 ∧
    c = ⟨fmul (f32OfNat r) 0x3D042108, fmul (f32OfNat g) 0x3C820821, fmul (f32OfNat b) 0x3D042108⟩

/-- Whether q is the level of v on the grid of g: g * clamp01(v) + 0.5 truncated
(43_range_fit.md R553). -/
def levelOf (fused : Bool) (g v : F32) (q : Nat) : Prop :=
  (q : Int) * 2 ^ 149 ≤ fvalue (fmadd fused g (clamp01 v) 0x3F000000) ∧
    fvalue (fmadd fused g (clamp01 v) 0x3F000000) < ((q : Int) + 1) * 2 ^ 149

/-- Whether c is the grid colour of v (43_range_fit.md R553). -/
def quantised (fused : Bool) (v c : V3) : Prop :=
  ∃ r g b : Nat, r ≤ 31 ∧ g ≤ 63 ∧ b ≤ 31 ∧
    c = ⟨fmul (f32OfNat r) 0x3D042108, fmul (f32OfNat g) 0x3C820821, fmul (f32OfNat b) 0x3D042108⟩ ∧
    levelOf fused 0x41F80000 v.x r ∧ levelOf fused 0x427C0000 v.y g ∧ levelOf fused 0x41F80000 v.z b

/-- An interpolant of two colours with these weights (43_range_fit.md R554). -/
def mixed (wa wb : F32) (a b : V3) : V3 :=
  ⟨fadd (fmul a.x wa) (fmul b.x wb), fadd (fmul a.y wa) (fmul b.y wb), fadd (fmul a.z wa) (fmul b.z wb)⟩

/-- The palette of range-fit (43_range_fit.md R554). -/
def rangePalette (a b : V3) : List V3 :=
  [a, b, mixed 0x3F2AAAAB 0x3EAAAAAB a b, mixed 0x3EAAAAAB 0x3F2AAAAB a b]

/-- The distance of a point from a code (43_range_fit.md R555). -/
def rangeDistance (p : V4) (c : V3) : F32 :=
  let dx := fmul (fsub p.x c.x) 0x3F800000
  let dy := fmul (fsub p.y c.y) 0x3F800000
  let dz := fmul (fsub p.z c.z) 0x3F800000
  fadd (fadd (fmul dx dx) (fmul dy dy)) (fmul dz dz)

/-- Whether j is the number of the lowest nearest code below BIG, or 0 where no distance is below it
(43_range_fit.md R555). -/
def lowestNearest (codes : List V3) (p : V4) (j : Nat) : Prop :=
  (j = 0 ∧ ∀ c ∈ codes, flt (rangeDistance p c) 0x7CF0BDC2 = false) ∨
  ∃ c, codes[j]? = some c ∧ flt (rangeDistance p c) 0x7CF0BDC2 = true ∧
    (∀ d ∈ codes, flt (rangeDistance p d) (rangeDistance p c) = false) ∧
    (∀ k d, k < j → codes[k]? = some d →
      flt (rangeDistance p d) 0x7CF0BDC2 = false ∨
      flt (rangeDistance p c) (rangeDistance p d) = true)

/-- The centroid of one lane (42_color_set_builder.md R509). -/
def laneCentroid (ps : List V4) (l : V4 → F32) : F32 :=
  let total := (ps.map V4.w).foldl fadd 0x00000000
  let c := (ps.map fun p => fmul (l p) p.w).foldl fadd 0x00000000
  if flt 0x34000000 total = true then fdiv c total else c

/-- One entry of the weighted covariance (42_color_set_builder.md R509). -/
def covarianceEntry (ps : List V4) (l m : V4 → F32) : F32 :=
  (ps.map fun p => fmul (fsub (l p) (laneCentroid ps l))
    (fmul p.w (fsub (m p) (laneCentroid ps m)))).foldl fadd 0x00000000

/-- One step of the power iteration on three lanes (42_color_set_builder.md R510); the entries below
the diagonal are those above it. -/
def axisStep (eps : F64) (ps : List V4) (v : V3) : V3 :=
  let row (a b c : F32) := fadd (fmul c v.z) (fadd (fmul b v.y) (fmul a v.x))
  let xy := covarianceEntry ps V4.x V4.y
  let xz := covarianceEntry ps V4.x V4.z
  let yz := covarianceEntry ps V4.y V4.z
  let wx := row (covarianceEntry ps V4.x V4.x) xy xz
  let wy := row xy (covarianceEntry ps V4.y V4.y) yz
  let wz := row xz yz (covarianceEntry ps V4.z V4.z)
  let a := precip eps (fmax wx (fmax wy wz))
  ⟨fmul wx a, fmul wy a, fmul wz a⟩

/-- The weighted point of an ordering (44_cluster_fit.md R603). -/
def timesWeight (p : V4) : V4 := ⟨fmul p.w p.x, fmul p.w p.y, fmul p.w p.z, fmul p.w 0x3F800000⟩

/-- The weighted points of an ordering and their total (44_cluster_fit.md R603). -/
def orderedPoints (ps : List V4) (order : List Nat) : List V4 :=
  order.map fun i => timesWeight (ps.getD i ⟨0, 0, 0, 0⟩)
def orderedTotal (ps : List V4) (order : List Nat) : V4 :=
  (orderedPoints ps order).foldl vadd ⟨0, 0, 0, 0⟩

/-- One lane of a partition's sums, weighted for the first and for the second endpoint
(44_cluster_fit.md R606: ax and bx). -/
def runSums (fused : Bool) (xs : V4) (t : Partition) (l : V4 → F32) (tt ot : F32) : F32 × F32 :=
  let part3 := fsub (fsub (fsub (l xs) (l t.part2)) (l t.part1)) (l t.part0)
  (fmadd fused (l t.part2) ot (fmadd fused (l t.part1) tt (l t.part0)),
   fmadd fused (l t.part1) ot (fmadd fused (l t.part2) tt part3))

/-- One lane of a partition's quantised endpoints and of its error on the grid of g
(44_cluster_fit.md R606 to R608). -/
def laneFit (p : Params) (xs : V4) (t : Partition) (l : V4 → F32) (g gr : F32) : F32 × F32 × F32 :=
  let madd := fmadd p.maddFused
  let nmsub := fnmsub p.maddFused
  let s := runSums p.maddFused xs t l 0x3F2AAAAB 0x3EAAAAAB
  let w := runSums p.maddFused xs t V4.w 0x3EE38E39 0x3DE38E39
  let ab := fmul 0x3E638E39 (fadd t.part1.w t.part2.w)
  let det := nmsub ab ab (fmul w.1 w.2)
  let fac := if p.recipGuard = .epsilon then precip p.recipEps det else fdiv 0x3F800000 det
  let grid (v : F32) := fmul (ftrunc (madd g (clamp01 v) 0x3F000000)) gr
  let a := grid (fmul (nmsub s.2 ab (fmul s.1 w.2)) fac)
  let b := grid (fmul (nmsub s.1 ab (fmul s.2 w.1)) fac)
  let e1 := madd (fmul a a) w.1 (fmul (fmul b b) w.2)
  let e2 := nmsub b s.2 (nmsub a s.1 (fmul (fmul a b) ab))
  (a, b, fmul (madd 0x40000000 e2 e1) 0x3F800000)

/-- The axis that a record gives the next pass (44_cluster_fit.md R611). -/
def nextAxis (b : Best) : V3 :=
  ⟨fsub b.stop.x b.start.x, fsub b.stop.y b.start.y, fsub b.stop.z b.start.z⟩

/-- The alpha values of the valid slots, in raster order (46_alpha_codec.md R700). -/
def validAlphas (l : Latch) : List Nat :=
  (slots.filter fun i => slotValid l i).map fun i => channelNat (slotPixel l i) 3

/-- The value of an alpha code between two end values (46_alpha_codec.md R707). -/
def codeValue (a0 a1 c : Nat) : Nat :=
  if c = 0 then a0
  else if c = 1 then a1
  else if a0 > a1 then ((8 - c) * a0 + (c - 1) * a1) / 7
  else if c = 6 then 0
  else if c = 7 then 255
  else ((6 - c) * a0 + (c - 1) * a1) / 5

/-- The 3-bit code that slot i of an interpolated alpha block stores (30_encoding.md R312). -/
def codeAt (b : Block8) (i : Slot) : Nat :=
  (byteNat b 2 + byteNat b 3 * 2 ^ 8 + byteNat b 4 * 2 ^ 16 + byteNat b 5 * 2 ^ 24 +
    byteNat b 6 * 2 ^ 32 + byteNat b 7 * 2 ^ 40) / 2 ^ (3 * i.val) % 8

/-- The encoder's number of a stored code (46_alpha_codec.md R705). -/
def encoderCode (sel7 : Bool) (c : Nat) : Nat :=
  if sel7 = true then (if c < 2 then 1 - c else 9 - c) else c

def squaredDifference (a b : Nat) : Nat := ((a : Int) - b).natAbs ^ 2

/-- The least squared distance of a value from the 8 codes of two end values; no two values are
further than 255 apart (46_alpha_codec.md R704). -/
def leastDistance (a0 a1 a : Nat) : Nat :=
  ((List.range 8).map fun c => squaredDifference a (codeValue a0 a1 c)).foldl min (255 ^ 2)

end Sys2Proof.Statements

open Sys2Proof Sys2Proof.Machine Sys2Proof.Statements

/-! ## Reset, steps and the invariant -/

/-- R951, through the register window. The ROM's reset contents are those of R466. -/
def Obligations.ResetLeavesTheStatedValues : Prop :=
  (∀ off : Nat, off % 4 = 0 → off < 0x1000 →
    readReg State.reset (regAt off) =
      if off = 0x008 then 0x0000FFFF else if off = 0x00C then 0x44580100 else 0x00000000) ∧
  (∀ (v : Fin 256) (o : Fin 2),
    readReg State.reset (.lut 0 v o) = lutWord (orientation (lut5[v]) o.val) ∧
    readReg State.reset (.lut 1 v o) = lutWord (orientation (lut6[v]) o.val)) ∧
  State.reset.status.busy = false

/-- The invariant holds at reset. It rests on the model's default parameters (log 3). -/
def Obligations.ResetIsConsistent : Prop := Safety.consistent State.reset = true

/-- The invariant is kept by every step from every state that has it. -/
def Obligations.EveryStepKeepsConsistency : Prop :=
  ∀ s t : State, Safety.consistent s = true → step s = .next t → Safety.consistent t = true

/-- No defined event stops a consistent machine: R201's accesses are all answered and R903's
complete step always succeeds. -/
def Obligations.DefinedEventsNeverStopTheMachine : Prop :=
  ∀ s : State, Safety.consistent s = true → Safety.inputsOk s = true →
    ∃ t, step s = .next t ∧ Safety.inputsOk t = true ∧ t.inputs = s.inputs.tail

/-- R950: the platform's reset, at any time. That it keeps the parameters is R951's ROM line and the
model's choice for the rest (log 3); what lies outside the engine is as before (log 1). -/
def Obligations.PlatformResetRestoresEveryRegister : Prop :=
  ∀ (s : State) (rest : List Event), s.inputs = .reset :: rest →
    ∃ t, step s = .next t ∧ t.params = s.params ∧ t.inputs = rest ∧
      t.cmd = 0 ∧ t.status = ⟨false, false, 0⟩ ∧ t.valid = 0xFFFF ∧
      t.diag = ⟨0, 0, 0, 0, 0, 0, 0, 0⟩ ∧
      (∀ i : Fin 16, t.pixIn[i] = 0 ∧ t.pixOut[i] = 0 ∧ t.blkIn[i] = 0 ∧ t.blkOut[i] = 0) ∧
      t.va = ⟨0, 0, 0, 0⟩ ∧ t.vb = ⟨0, 0, 0, 0⟩ ∧ t.vc = ⟨0, 0, 0, 0⟩ ∧ t.vr = ⟨0, 0, 0, 0⟩

/-- A step runs the latched command: with nothing pending, or where the pending events have the
complete step next; and the state `withFetchWord` makes runs the word it was given (log 1). -/
def Obligations.OneStepRunsTheLatchedCommand : Prop :=
  (∀ (s : State) (i : Instr), s.status.busy = true → decodeWord s.latch.cmd = .ok i →
    (s.inputs = [] → step s = exec i s) ∧
    (∀ rest, s.inputs = .complete :: rest → step s = exec i { s with inputs := rest })) ∧
  (∀ (s : State) (w : Word) (i : Instr), decodeWord w = .ok i →
    step (s.withFetchWord 32 w.toNat) =
      exec i { s with
        cmd := w, status := ⟨true, false, 0⟩
        latch := ⟨w, s.valid, s.pixIn, s.blkIn, s.va, s.vb, s.vc⟩ })

/-- R958: with nothing pending a command in progress is completed by the next step, and an idle
engine stays as it is. -/
def Obligations.AnUndisturbedCommandCompletes : Prop :=
  ∀ s : State, Safety.consistent s = true → s.inputs = [] →
    (s.status.busy = true →
      ∃ t, step s = .next t ∧ t.status = ⟨false, true, s.status.errcode⟩) ∧
    (s.status.busy = false → step s = .next s)

/-! ## Decoding and encoding -/

/-- Each word is the command `i` exactly when it is the word of `i`. -/
def Obligations.WordsDecodeExactlyToTheirCommands : Prop :=
  ∀ (w : Word) (i : Instr), decodeWord w = .ok i ↔ w = encode i

/-- R302: the match and mask of a mnemonic decide its words, and no two overlap; R303 and R304 name
the two failures. -/
def Obligations.MaskAndMatchDecideTheDecoder : Prop :=
  (∀ w : Word,
    (w &&& 0xFF ∉ listedOpcodes → decodeWord w = .error .illegalOpcode) ∧
    (w &&& 0xFF ∈ listedOpcodes →
      (w &&& opcodeMask (w &&& 0xFF) ≠ w &&& 0xFF → decodeWord w = .error .reservedField) ∧
      (w &&& opcodeMask (w &&& 0xFF) = w &&& 0xFF → ∃ i, decodeWord w = .ok i))) ∧
  (∀ i : Instr, maskOf i = opcodeMask ((opcodeOf i).setWidth 32)) ∧
  (∀ (i : Instr) (w : Word), w &&& maskOf i = (opcodeOf i).setWidth 32 ↔
    ∃ j, decodeWord w = .ok j ∧ opcodeOf j = opcodeOf i) ∧
  (∀ (i j : Instr) (w : Word), w &&& maskOf i = (opcodeOf i).setWidth 32 →
    w &&& maskOf j = (opcodeOf j).setWidth 32 → opcodeOf i = opcodeOf j)

/-- Words written out from R300 and R301. -/
def Obligations.SampleWordsDecodeAsTheTableSays : Prop :=
  decodeBytes [0x01, 0x07, 0x00, 0x00] = .ok (.encDxt1 true true true) ∧
  decodeBytes [0x02, 0x02, 0x00, 0x00] = .ok (.encDxt3 false true) ∧
  decodeBytes [0x0A, 0x00, 0x00, 0x00] = .ok .decDxt5 ∧
  decodeBytes [0x23, 0x00, 0x00, 0x00] = .ok .vmadd4 ∧
  decodeBytes [0x39, 0x00, 0x00, 0x00] = .ok .precip ∧
  decodeBytes [0x03, 0x04, 0x00, 0x00] = .error (.notCommand .reservedField) ∧
  decodeBytes [0x06, 0x00, 0x00, 0x00] = .error (.notCommand .illegalOpcode)

/-! ## Issue, acceptance and refusal -/

/-- R901. -/
def Obligations.CommandWritesFollowTheIssueRule : Prop :=
  ∀ (s : State) (w : Word) (rest : List Event), s.inputs = .write 0x000 4 w :: rest →
    step s = .next
      (if s.status.busy = true then
        { s with inputs := rest, status := { s.status with errcode := 3 } }
      else if w &&& 0xFF ∉ listedOpcodes then
        { s with inputs := rest, status := { s.status with errcode := 1, done := true } }
      else if w &&& opcodeMask (w &&& 0xFF) ≠ w &&& 0xFF then
        { s with inputs := rest, status := { s.status with errcode := 2, done := true } }
      else
        { s with
          inputs := rest, cmd := w
          latch := ⟨w, s.valid, s.pixIn, s.blkIn, s.va, s.vb, s.vc⟩
          status := { busy := true, done := false, errcode := 0 } })

/-- R902: the refused write changes ERRCODE alone, the running command completes as it would have, and
ERRCODE stays until the next CMD write (or the platform's reset). -/
def Obligations.WriteWhileBusyIsRefusedAndLost : Prop :=
  (∀ (s u : State) (w : Word) (rest : List Event), s.status.busy = true →
    s.inputs = .write 0x000 4 w :: .complete :: rest →
    engineStep { s with inputs := rest } = .next u →
    ∃ t, step s = .next t ∧
      t = { s with
        inputs := .complete :: rest, status := { s.status with errcode := 3 } } ∧
      step t = .next { u with status := { u.status with errcode := 3 } }) ∧
  (∀ s t : State, step s = .next t →
    (∀ w, s.inputs.head? ≠ some (.write 0x000 4 w)) → s.inputs.head? ≠ some .reset →
    t.status.errcode = s.status.errcode)

/-- R103, R900, as a rule of every step: BUSY is set by an accepted CMD write only and cleared by the
complete step or the platform's reset only. -/
def Obligations.OnlyIssueCompletionAndResetMoveBusy : Prop :=
  ∀ s t : State, step s = .next t →
    (s.status.busy = false → t.status.busy = true →
      ∃ w rest i, s.inputs = .write 0x000 4 w :: rest ∧ decodeWord w = .ok i ∧ t.cmd = w) ∧
    (s.status.busy = true → t.status.busy = false →
      s.inputs = [] ∨ s.inputs.head? = some .complete ∨ s.inputs.head? = some .reset)

/-! ## The complete step of every command -/

/-- R903: the complete step of every command succeeds; it leaves the inputs, CMD, the latch, the
parameters and ERRCODE, and every output register its rule does not name. -/
def Obligations.CompletionWritesOnlyTheNamedOutputs : Prop :=
  ∀ (i : Instr) (s : State), ∃ t, exec i s = .next t ∧
    t.status = { busy := false, done := true, errcode := s.status.errcode } ∧
    t.cmd = s.cmd ∧ t.latch = s.latch ∧ t.params = s.params ∧ t.inputs = s.inputs ∧
    t.valid = s.valid ∧ t.pixIn = s.pixIn ∧ t.blkIn = s.blkIn ∧
    t.va = s.va ∧ t.vb = s.vb ∧ t.vc = s.vc ∧
    t.readData = s.readData ∧ t.freeReads = s.freeReads ∧
    (isEncode i = false → t.blkOut = s.blkOut ∧ t.freeTies = s.freeTies) ∧
    (isDecode i = false → t.pixOut = s.pixOut) ∧
    (isPrimitive i = false → t.vr = s.vr) ∧
    (i = .nop → t.diag = s.diag) ∧
    (isDecode i = true ∨ isPrimitive i = true → t.diag = ⟨0, 0, 0, 0, 0, 0, 0, 0⟩)

/-- The same frame through the host's view: every byte of the window outside STATUS, DIAG and the
command's own output register reads as before. -/
def Obligations.CompletionLeavesTheRestOfTheWindow : Prop :=
  ∀ (i : Instr) (s : State), ∃ t, exec i s = .next t ∧
    ∀ off : Nat, off < 0x2000 → ¬ (0x004 ≤ off ∧ off < 0x008) →
      (i = .nop ∨ ¬ (0x020 ≤ off ∧ off < 0x040)) →
      (isDecode i = false ∨ ¬ (0x0C0 ≤ off ∧ off < 0x100)) →
      (isEncode i = false ∨ ¬ (0x100 ≤ off ∧ off < 0x110)) →
      (isPrimitive i = false ∨ ¬ (0x110 ≤ off ∧ off < 0x120)) →
      windowByte t off = windowByte s off

/-- R122, R212, R953: what a command writes depends on the latch, the parameters and the free choices
only, not on the live inputs, nor on what earlier commands left. -/
def Obligations.ResultsDependOnTheLatchAlone : Prop :=
  ∀ (i : Instr) (s1 s2 : State), sameLatch s1 s2 → ∃ t1 t2,
    exec i s1 = .next t1 ∧ exec i s2 = .next t2 ∧ t1.freeTies = t2.freeTies ∧
    (isEncode i = true → t1.blkOut = t2.blkOut) ∧
    (isDecode i = true → t1.pixOut = t2.pixOut) ∧
    (isPrimitive i = true → t1.vr = t2.vr) ∧
    (i ≠ .nop → t1.diag = t2.diag)

/-- R953: input writes between acceptance and completion do not reach the running command: the
complete step writes the same outputs whether it falls before or after the write. -/
def Obligations.InputWritesWhileBusyMissTheRunningCommand : Prop :=
  ∀ (s : State) (off : Nat) (v : Word) (i : Instr), WellFormed.access off 4 = true → off ≠ 0x000 →
    ∃ t u u', hostWrite off 4 v s = .next t ∧ exec i t = .next u ∧ exec i s = .next u' ∧
      u.blkOut = u'.blkOut ∧ u.pixOut = u'.pixOut ∧ u.vr = u'.vr ∧ u.diag = u'.diag ∧
      u.status = u'.status

/-! ## NOP and the primitive commands -/

/-- R804: accepted and completed like any other command, NOP changes STATUS only. -/
def Obligations.NopChangesOnlyStatus : Prop :=
  decodeWord 0x00000000 = .ok .nop ∧
  ∀ s : State, exec .nop s =
    .next { s with status := { busy := false, done := true, errcode := s.status.errcode } }

/-- R420 to R422, with their corner cases. -/
def Obligations.FourLaneArithmeticWritesVr : Prop :=
  (∀ s : State,
    exec .vadd4 s = .next (afterPrimitive s
      ⟨fadd s.latch.va.x s.latch.vb.x, fadd s.latch.va.y s.latch.vb.y,
       fadd s.latch.va.z s.latch.vb.z, fadd s.latch.va.w s.latch.vb.w⟩) ∧
    exec .vsub4 s = .next (afterPrimitive s
      ⟨fsub s.latch.va.x s.latch.vb.x, fsub s.latch.va.y s.latch.vb.y,
       fsub s.latch.va.z s.latch.vb.z, fsub s.latch.va.w s.latch.vb.w⟩) ∧
    exec .vmul4 s = .next (afterPrimitive s
      ⟨fmul s.latch.va.x s.latch.vb.x, fmul s.latch.va.y s.latch.vb.y,
       fmul s.latch.va.z s.latch.vb.z, fmul s.latch.va.w s.latch.vb.w⟩)) ∧
  fadd 0x7F800000 0xFF800000 = 0x7FC00000 ∧ fadd 0x80000000 0x00000000 = 0x00000000 ∧
  fadd 0x80000000 0x80000000 = 0x80000000 ∧ fadd 0x3DCCCCCD 0x3E4CCCCD = 0x3E99999A ∧
  fsub 0x7F800000 0x7F800000 = 0x7FC00000 ∧ fsub 0x3DCCCCCD 0x3E99999A = 0xBE4CCCCE ∧
  (∀ x : F32, isNaN x = false → isInf x = false → fsub x x = 0x00000000) ∧
  fmul 0x7F800000 0x00000000 = 0x7FC00000 ∧ fmul 0x80000000 0x40A00000 = 0x80000000 ∧
  fmul 0x00800000 0x3F000000 = 0x00400000

/-- R423, R424 under both values of PARAM_MADD_FUSED. What the fused form gives on zeros, infinities and
NaNs is the model's reading (log 8), and so is the fused C - A*B as (-A)*B + C (log 9). -/
def Obligations.MultiplyAddFollowsTheFusedParameter : Prop :=
  (∀ s : State, s.params.maddFused = false →
    exec .vmadd4 s = .next (afterPrimitive s
      ⟨fadd (fmul s.latch.va.x s.latch.vb.x) s.latch.vc.x,
       fadd (fmul s.latch.va.y s.latch.vb.y) s.latch.vc.y,
       fadd (fmul s.latch.va.z s.latch.vb.z) s.latch.vc.z,
       fadd (fmul s.latch.va.w s.latch.vb.w) s.latch.vc.w⟩) ∧
    exec .vnmsub4 s = .next (afterPrimitive s
      ⟨fsub s.latch.vc.x (fmul s.latch.va.x s.latch.vb.x),
       fsub s.latch.vc.y (fmul s.latch.va.y s.latch.vb.y),
       fsub s.latch.vc.z (fmul s.latch.va.z s.latch.vb.z),
       fsub s.latch.vc.w (fmul s.latch.va.w s.latch.vb.w)⟩)) ∧
  (∀ s : State, s.params.maddFused = true →
    exec .vmadd4 s = .next (afterPrimitive s
      ⟨ffma s.latch.va.x s.latch.vb.x s.latch.vc.x, ffma s.latch.va.y s.latch.vb.y s.latch.vc.y,
       ffma s.latch.va.z s.latch.vb.z s.latch.vc.z, ffma s.latch.va.w s.latch.vb.w s.latch.vc.w⟩) ∧
    exec .vnmsub4 s = .next (afterPrimitive s
      ⟨ffma (fneg s.latch.va.x) s.latch.vb.x s.latch.vc.x,
       ffma (fneg s.latch.va.y) s.latch.vb.y s.latch.vc.y,
       ffma (fneg s.latch.va.z) s.latch.vb.z s.latch.vc.z,
       ffma (fneg s.latch.va.w) s.latch.vb.w s.latch.vc.w⟩)) ∧
  fadd (fmul 0x3F800001 0x3F800001) 0xBF800002 = 0x00000000 ∧
  ffma 0x3F800001 0x3F800001 0xBF800002 = 0x28800000 ∧
  fsub 0x3F800002 (fmul 0x3F800001 0x3F800001) = 0x00000000 ∧
  ffma (fneg 0x3F800001) 0x3F800001 0x3F800002 = 0xA8800000

/-- R425 to R427: the lane-wise one-operand commands, and the corner cases of the reciprocal (R408). -/
def Obligations.FourLaneOneOperandCommandsWriteVr : Prop :=
  (∀ s : State,
    exec .vclamp4 s = .next (afterPrimitive s
      ⟨clamp01 s.latch.va.x, clamp01 s.latch.va.y, clamp01 s.latch.va.z, clamp01 s.latch.va.w⟩) ∧
    exec .vtrunc4 s = .next (afterPrimitive s
      ⟨ftrunc s.latch.va.x, ftrunc s.latch.va.y, ftrunc s.latch.va.z, ftrunc s.latch.va.w⟩) ∧
    exec .vrecip4 s = .next (afterPrimitive s
      ⟨fdiv 0x3F800000 s.latch.va.x, fdiv 0x3F800000 s.latch.va.y,
       fdiv 0x3F800000 s.latch.va.z, fdiv 0x3F800000 s.latch.va.w⟩)) ∧
  fdiv 0x3F800000 0x00000000 = 0x7F800000 ∧ fdiv 0x3F800000 0x80000000 = 0xFF800000 ∧
  fdiv 0x3F800000 0x7F800000 = 0x00000000 ∧ fdiv 0x3F800000 0xFF800000 = 0x80000000 ∧
  (∀ x : F32, isNaN x = true → fdiv 0x3F800000 x = 0x7FC00000) ∧
  (∀ x : F32, fmag x < 0x00200000 →
    fdiv 0x3F800000 x = if fsign x = true then 0xFF800000 else 0x7F800000) ∧
  fdiv 0x3F800000 0x7F7FFFFF = 0x00200000

/-- R430 to R437: lanes x, y and z are those of the four-lane command on the same latch, lane w is +0;
and lanes w of the operands are not read. -/
def Obligations.ThreeLaneCommandsZeroLaneW : Prop :=
  ∀ (s : State) (i4 i3 : Instr),
    (i4, i3) ∈ [(Instr.vadd4, Instr.vadd3), (.vsub4, .vsub3), (.vmul4, .vmul3), (.vmadd4, .vmadd3),
      (.vnmsub4, .vnmsub3), (.vclamp4, .vclamp3), (.vtrunc4, .vtrunc3), (.vrecip4, .vrecip3)] →
    (∃ v, exec i4 s = .next (afterPrimitive s v) ∧
      exec i3 s = .next (afterPrimitive s ⟨v.x, v.y, v.z, 0x00000000⟩)) ∧
    (∀ aw bw cw : F32, ∃ t t',
      exec i3 s = .next t ∧
      exec i3 { s with latch := { s.latch with
        va := { s.latch.va with w := aw }, vb := { s.latch.vb with w := bw }
        vc := { s.latch.vc with w := cw } } } = .next t' ∧
      t.vr = t'.vr)

/-- R438. -/
def Obligations.DotProductSumsLeftToRight : Prop :=
  (∀ s : State, exec .vdot3 s = .next (afterPrimitive s
    ⟨fadd (fadd (fmul s.latch.va.x s.latch.vb.x) (fmul s.latch.va.y s.latch.vb.y))
      (fmul s.latch.va.z s.latch.vb.z), 0, 0, 0⟩)) ∧
  dot3 ⟨0x3F800000, 0x40000000, 0x40400000⟩ ⟨0x40800000, 0x40A00000, 0x40C00000⟩ = 0x42000000 ∧
  dot3 ⟨0x3DCCCCCD, 0x3DCCCCCD, 0x3DCCCCCD⟩ ⟨0x3DCCCCCD, 0x3DCCCCCD, 0x3DCCCCCD⟩ = 0x3CF5C290 ∧
  dot3 ⟨0x7F800000, 0, 0⟩ ⟨0, 0, 0⟩ = 0x7FC00000

/-- R439, R411: the command; 1/x in binary64 rounded once to binary32 from the epsilon on, whatever
well-formed epsilon is in force; a zero of its sign for an infinity; and below the epsilon, and for a
NaN, 1/epsilon so rounded, negative exactly for x < 0. In binary64 units of 2^-1074 a pattern of u units
of 2^-149 is u * 2^925, and its reciprocal 2^1223 / u. With the default epsilon the floor's pattern, and
that the result is never an infinity or a NaN. The reading of the comparison on a NaN is log 16. -/
def Obligations.PrecipIsFlooredAtTheEpsilon : Prop :=
  (∀ s : State, exec .precip s = .next (afterPrimitive s
    ⟨precip s.params.recipEps s.latch.va.x, 0, 0, 0⟩)) ∧
  (∀ (eps : F64) (x : F32), WellFormed.recipEps eps = true →
    (finite x → unitsOf binary64 eps.toNat ≤ (fvalue x).natAbs * 2 ^ 925 →
      precip eps x = fpack (fsign x) (roundMag binary32
        (unitsOf binary64 (roundMag binary64 (2 ^ 1223) (fvalue x).natAbs)) (2 ^ 925))) ∧
    (isInf x = true → precip eps x = fpack (fsign x) 0) ∧
    (isNaN x = true ∨ (finite x ∧ (fvalue x).natAbs * 2 ^ 925 < unitsOf binary64 eps.toNat) →
      precip eps x = fpack (flt x 0) (roundMag binary32
        (unitsOf binary64 (roundMag binary64 (2 ^ 2148) (unitsOf binary64 eps.toNat))) (2 ^ 925)))) ∧
  (∀ x : F32, isNaN x = true ∨ fmag x ≤ 0x2B8CBCCC →
    precip 0x3D719799812DEA11 x = if flt x 0 = true then 0xD368D4A5 else 0x5368D4A5) ∧
  (∀ x : F32, isNaN (precip 0x3D719799812DEA11 x) = false ∧
    isInf (precip 0x3D719799812DEA11 x) = false) ∧
  precip 0x3D719799812DEA11 0x40000000 = 0x3F000000 ∧
  precip 0x3D719799812DEA11 0x2B8CBCCD = 0x5368D4A3

/-! ## Floating point -/

/-- R9: `roundMag` gives the nearest finite pattern, an even one of two equally near, and infinity
exactly from half a unit in the last place above the largest finite value on, in binary32 and in the
binary64 of R411. On finite operands every
operation of R9, R404 and R405 gives the rounding of its exact result, with the exact sign; an exact
zero sum is -0 only for two negative zeros, and the fused forms give some zero (its sign: log 8,
log 9). The root is nearest in that no other pattern's midpoint with it lies between. `f32` of a
natural up to 2^24 is exact (R11). -/
def Obligations.RoundingIsToNearestTiesToEven : Prop :=
  (∀ (f : FloatFormat) (num den : Nat), f = binary32 ∨ f = binary64 → 0 < den →
    (roundMag f num den < f.inf → ∀ m, m < f.inf →
      ((num : Int) - den * unitsOf f (roundMag f num den)).natAbs ≤
        ((num : Int) - den * unitsOf f m).natAbs ∧
      (((num : Int) - den * unitsOf f (roundMag f num den)).natAbs =
          ((num : Int) - den * unitsOf f m).natAbs →
        m = roundMag f num den ∨ roundMag f num den % 2 = 0)) ∧
    (roundMag f num den = f.inf ↔ den * ((2 ^ (f.frac + 2) - 1) * 2 ^ (f.expMax - 3)) ≤ num)) ∧
  (∀ a b : F32, finite a → finite b →
    (fvalue a + fvalue b ≠ 0 → fadd a b = nearest (fvalue a + fvalue b) 1) ∧
    (fvalue a + fvalue b = 0 → fadd a b = fpack (fsign a && fsign b) 0) ∧
    (fvalue a - fvalue b ≠ 0 → fsub a b = nearest (fvalue a - fvalue b) 1) ∧
    (fvalue a - fvalue b = 0 → fsub a b = fpack (fsign a && !fsign b) 0) ∧
    fmul a b = fpack (productNegative a b)
      (roundMag binary32 (fvalue a * fvalue b).natAbs (2 ^ 149)) ∧
    (fvalue b ≠ 0 → fdiv a b = fpack (productNegative a b)
      (roundMag binary32 ((fvalue a).natAbs * 2 ^ 149) (fvalue b).natAbs))) ∧
  (∀ a : F32, finite a → 0 < fvalue a →
    finite (fsqrt a) ∧ fsign (fsqrt a) = false ∧
    ∀ m, m < binary32.inf →
      (m < fmag (fsqrt a) →
        ((unitsOf binary32 m + fvalue (fsqrt a)) ^ 2 : Int) ≤ 4 * (fvalue a * 2 ^ 149)) ∧
      (fmag (fsqrt a) < m →
        4 * (fvalue a * 2 ^ 149) ≤ ((unitsOf binary32 m + fvalue (fsqrt a)) ^ 2 : Int))) ∧
  (∀ a : F32, fmag a = 0 → fsqrt a = a) ∧
  (∀ a b c : F32, finite a → finite b → finite c →
    (fvalue a * fvalue b + fvalue c * 2 ^ 149 ≠ 0 →
      ffma a b c = nearest (fvalue a * fvalue b + fvalue c * 2 ^ 149) (2 ^ 149)) ∧
    (fvalue a * fvalue b + fvalue c * 2 ^ 149 = 0 → fmag (ffma a b c) = 0) ∧
    (fvalue c * 2 ^ 149 - fvalue a * fvalue b ≠ 0 →
      fnmsub true a b c = nearest (fvalue c * 2 ^ 149 - fvalue a * fvalue b) (2 ^ 149)) ∧
    (fvalue c * 2 ^ 149 - fvalue a * fvalue b = 0 → fmag (fnmsub true a b c) = 0)) ∧
  (∀ n : Nat, n ≤ 2 ^ 24 → finite (f32OfNat n) ∧ fvalue (f32OfNat n) = n * 2 ^ 149)

/-- R10: the comparison is that of the values, an infinity counting as 2^277 units and so beyond every
finite value; +0 and -0 are equal; a NaN compares false. -/
def Obligations.ComparisonsAreByValue : Prop :=
  (∀ a b : F32, isNaN a = false → isNaN b = false →
    (flt a b = true ↔ fvalue a < fvalue b) ∧ (feq a b = true ↔ fvalue a = fvalue b)) ∧
  (∀ a : F32, isInf a = true → (fvalue a).natAbs = 2 ^ 277) ∧
  (∀ a : F32, fmag a < 0x7F800000 → (fvalue a).natAbs < 2 ^ 277) ∧
  feq 0x00000000 0x80000000 = true ∧
  (∀ a b : F32, isNaN a = true ∨ isNaN b = true → flt a b = false ∧ feq a b = false)

/-- R409: an operation of R9 gives the canonical NaN exactly where IEEE-754 has an invalid operation or
a NaN operand, and no other NaN; the multiply-adds give it on a NaN operand, on infinity times zero and
on infinities that cancel (in the fused forms the model's reading, log 8, log 9), and no other NaN. The
selections (R403) and exact functions return a NaN input as it is. -/
def Obligations.ArithmeticNansAreCanonical : Prop :=
  ∀ (a b c : F32) (fused : Bool),
    (fadd a b = 0x7FC00000 ↔ isNaN a = true ∨ isNaN b = true ∨
      (isInf a = true ∧ isInf b = true ∧ fsign a ≠ fsign b)) ∧
    (fsub a b = 0x7FC00000 ↔ isNaN a = true ∨ isNaN b = true ∨
      (isInf a = true ∧ isInf b = true ∧ fsign a = fsign b)) ∧
    (fmul a b = 0x7FC00000 ↔ isNaN a = true ∨ isNaN b = true ∨
      (isInf a = true ∧ isZero b = true) ∨ (isZero a = true ∧ isInf b = true)) ∧
    (fdiv a b = 0x7FC00000 ↔ isNaN a = true ∨ isNaN b = true ∨
      (isInf a = true ∧ isInf b = true) ∨ (isZero a = true ∧ isZero b = true)) ∧
    (fsqrt a = 0x7FC00000 ↔ isNaN a = true ∨ (fsign a = true ∧ isZero a = false)) ∧
    (isNaN a = true ∨ isNaN b = true ∨ isNaN c = true ∨
        (isInf a = true ∧ isZero b = true) ∨ (isZero a = true ∧ isInf b = true) →
      fmadd fused a b c = 0x7FC00000 ∧ fnmsub fused a b c = 0x7FC00000) ∧
    ((isInf a = true ∨ isInf b = true) → isInf c = true →
      (fsign c ≠ productNegative a b → fmadd fused a b c = 0x7FC00000) ∧
      (fsign c = productNegative a b → fnmsub fused a b c = 0x7FC00000)) ∧
    (isNaN (fadd a b) = true → fadd a b = 0x7FC00000) ∧
    (isNaN (fsub a b) = true → fsub a b = 0x7FC00000) ∧
    (isNaN (fmul a b) = true → fmul a b = 0x7FC00000) ∧
    (isNaN (fdiv a b) = true → fdiv a b = 0x7FC00000) ∧
    (isNaN (fsqrt a) = true → fsqrt a = 0x7FC00000) ∧
    (isNaN (fmadd fused a b c) = true → fmadd fused a b c = 0x7FC00000) ∧
    (isNaN (fnmsub fused a b c) = true → fnmsub fused a b c = 0x7FC00000) ∧
    (isNaN a = true ∨ isNaN b = true → fmax a b = b ∧ fmin a b = b) ∧
    (isNaN a = true → clamp01 a = a ∧ ftrunc a = a)

/-- R406: the clamp and its results, a NaN with its payload, the infinities and -0 among them. -/
def Obligations.ClampResultsAreThoseListed : Prop :=
  ∀ x : F32,
    clamp01 x = fmin 0x3F800000 (fmax 0x00000000 x) ∧
    (isNaN x = true → clamp01 x = x) ∧
    (flt x 0x00000000 = true → clamp01 x = 0x00000000) ∧
    (flt 0x3F800000 x = true → clamp01 x = 0x3F800000) ∧
    (isNaN x = false → flt x 0x00000000 = false → flt 0x3F800000 x = false → clamp01 x = x) ∧
    clamp01 0xFF800000 = 0x00000000 ∧ clamp01 0x7F800000 = 0x3F800000 ∧
    clamp01 0x80000000 = 0x80000000

/-- R407: truncation toward zero is exact, keeps the sign, and leaves ±0, ±inf and NaN. -/
def Obligations.TruncationIsExactAndKeepsTheSign : Prop :=
  ∀ x : F32,
    (fmag x < 0x7F800000 → fvalue (ftrunc x) = (fvalue x).tdiv (2 ^ 149) * 2 ^ 149 ∧
      fsign (ftrunc x) = fsign x ∧ fmag (ftrunc x) < 0x7F800000) ∧
    (fmag x = 0 ∨ 0x7F800000 ≤ fmag x → ftrunc x = x)

/-! ## The register window -/

/-- R201: every other width, misalignment or offset is refused; R204: a read changes nothing of the
engine. -/
def Obligations.HostReadsHaveNoSideEffect : Prop :=
  (∀ (off size : Nat) (s : State), ¬ (size = 4 ∧ off % 4 = 0 ∧ off < 0x2000) →
    hostRead off size s = .refused .undefinedAccess ∧
    ∀ v, hostWrite off size v s = .refused .undefinedAccess) ∧
  (∀ (off : Nat) (s : State), off % 4 = 0 → off < 0x2000 →
    ∃ w n, hostRead off 4 s = .next { s with readData := w, freeReads := n })

/-- R206, R207: outside BUSY every read gives the register; while BUSY so do all but the output and
diagnostic registers. R101 to R119: which register stands at which offset, and the bits of STATUS. -/
def Obligations.ReadsGiveTheCurrentRegister : Prop :=
  (∀ (off : Nat) (s : State), off % 4 = 0 → off < 0x2000 →
    (s.status.busy = false ∨ off < 0x020 ∨ (0x040 ≤ off ∧ off < 0x0C0) ∨ 0x120 ≤ off) →
    hostRead off 4 s = .next { s with readData := readReg s (regAt off) }) ∧
  (∀ s : State,
    readReg s (regAt 0x000) = s.cmd ∧
    (readReg s (regAt 0x004)).toNat =
      s.status.busy.toNat + 2 * s.status.done.toNat + 256 * s.status.errcode.toNat ∧
    (readReg s (regAt 0x008)).toNat = s.valid.toNat ∧
    readReg s (regAt 0x00C) = 0x44580100 ∧
    readReg s (regAt 0x020) = s.diag.fit ∧ readReg s (regAt 0x024) = s.diag.cfErr ∧
    readReg s (regAt 0x028) = s.diag.cfBest ∧ readReg s (regAt 0x02C) = s.diag.scErr ∧
    readReg s (regAt 0x030) = s.diag.aErr5 ∧ readReg s (regAt 0x034) = s.diag.aErr7 ∧
    readReg s (regAt 0x038) = s.diag.aSel ∧ readReg s (regAt 0x03C) = s.diag.aRange ∧
    (∀ i : Slot, readReg s (regAt (0x040 + 4 * i.val)) = s.pixIn[i] ∧
      readReg s (regAt (0x0C0 + 4 * i.val)) = s.pixOut[i]) ∧
    (∀ m : Fin 4, (readReg s (regAt (0x080 + 4 * m.val))).toNat = bufferNat s.blkIn m ∧
      (readReg s (regAt (0x100 + 4 * m.val))).toNat = bufferNat s.blkOut m) ∧
    (∀ p ∈ [(0x090, s.va), (0x0A0, s.vb), (0x0B0, s.vc), (0x110, s.vr)],
      readReg s (regAt p.1) = p.2.x ∧ readReg s (regAt (p.1 + 4)) = p.2.y ∧
      readReg s (regAt (p.1 + 8)) = p.2.z ∧ readReg s (regAt (p.1 + 12)) = p.2.w))

/-- R101, R104: what is written to a read-write register reads back, VALID's reserved bits as 0; and
nothing else of the window changes. -/
def Obligations.WrittenInputsReadBack : Prop :=
  ∀ (off : Nat) (v : Word) (s : State), off % 4 = 0 →
    off = 0x008 ∨ (0x040 ≤ off ∧ off < 0x0C0) →
    ∃ t, hostWrite off 4 v s = .next t ∧
      readReg t (regAt off) = (if off = 0x008 then v &&& 0x0000FFFF else v) ∧
      (∀ off' : Nat, off' < 0x2000 → ¬ (off ≤ off' ∧ off' < off + 4) →
        windowByte t off' = windowByte s off') ∧
      t.latch = s.latch ∧ t.params = s.params

/-- R204, R121: a write to a read-only register, to reserved space or to the ROM is ignored, and
reserved space reads 0. -/
def Obligations.ReadOnlyAndReservedOffsetsIgnoreWrites : Prop :=
  ∀ (off : Nat) (v : Word) (s : State), off % 4 = 0 →
    ((off = 0x004 ∨ (0x00C ≤ off ∧ off < 0x040) ∨ (0x0C0 ≤ off ∧ off < 0x2000)) →
      hostWrite off 4 v s = .next s) ∧
    (((0x010 ≤ off ∧ off < 0x020) ∨ (0x120 ≤ off ∧ off < 0x1000)) →
      readReg s (regAt off) = 0)

/-- R456: the ROM word of every table, entry and orientation, whatever the tables are, and the two
examples with the default ones. -/
def Obligations.LutWindowShowsTheTables : Prop :=
  (∀ (s : State) (t v o : Nat), t < 2 → o < 2 → (hv : v < 256) →
    let e := orientation ((if t = 0 then s.params.lut5 else s.params.lut6)[v]) o
    hostRead (0x1000 + 0x800 * t + 8 * v + 4 * o) 4 s =
      .next { s with
        readData := BitVec.ofNat 32
          (e.start.toNat + e.stop.toNat * 2 ^ 8 + e.error.toNat * 2 ^ 16) }) ∧
  hostRead (0x1000 + 8 * 5) 4 State.reset = .next { State.reset with readData := 0x00030001 } ∧
  hostRead (0x1800 + 8 * 7 + 4) 4 State.reset = .next { State.reset with readData := 0x00010600 }

/-- R206: while BUSY an output or diagnostic register reads as the free value drawn next, whatever it
is (log 4). -/
def Obligations.BusyOutputReadsDrawAFreeValue : Prop :=
  ∀ (off : Nat) (s : State), s.status.busy = true → off % 4 = 0 →
    (0x020 ≤ off ∧ off < 0x040) ∨ (0x0C0 ≤ off ∧ off < 0x120) →
    hostRead off 4 s = .next { s with
      readData := Config.busyRead s.freeReads, freeReads := s.freeReads + 1 }

/-! ## Single-colour tables and fit -/

/-- R454, R466: the listed tables are the generator's output. -/
def Obligations.TablesAreTheGeneratorsOutput : Prop :=
  gen 5 = lut5.toList ∧ gen 6 = lut6.toList

/-- R453 and R455 (1) to (4), for (4) through the bound on orientation 1: the stored
error is the absolute difference, no endpoint pair has a smaller one, and it is small in every
entry. -/
def Obligations.TableEntriesAreOptimal : Prop :=
  ∀ v : Fin 256,
    (∀ o : Fin 2,
      let t5 := orientation lut5[v] o.val
      let t6 := orientation lut6[v] o.val
      t5.error.toNat =
        ((orientationCode 5 o.val t5.start.toNat t5.stop.toNat : Int) - v.val).natAbs ∧
      t6.error.toNat =
        ((orientationCode 6 o.val t6.start.toNat t6.stop.toNat : Int) - v.val).natAbs ∧
      (∀ q1 q2 : Nat, q1 < 32 → q2 < 32 →
        t5.error.toNat ≤ ((orientationCode 5 o.val q1 q2 : Int) - v.val).natAbs) ∧
      (∀ q1 q2 : Nat, q1 < 64 → q2 < 64 →
        t6.error.toNat ≤ ((orientationCode 6 o.val q1 q2 : Int) - v.val).natAbs)) ∧
    lut5[v].o0.error.toNat ≤ 4 ∧ lut6[v].o0.error.toNat ≤ 2 ∧
    lut5[v].o1.error.toNat ≤ 1 ∧ lut6[v].o1.error.toNat ≤ 1

/-- R460, R651: the channel value is recovered from its point lane, and every grid level from both
forms an endpoint lane takes; where a packed colour holds its three levels. -/
def Obligations.QuantisedLanesRecoverTheirLevels : Prop :=
  (∀ v : Fin 256, channelOf (fdiv (f32OfNat v.val) 0x437F0000) = BitVec.ofNat 8 v.val) ∧
  (∀ q : Fin 32, clampToLimit (fmul c31 (fmul (f32OfNat q.val) cRcp31)) 31 = q.val ∧
    clampToLimit (fmul c31 (fdiv (f32OfNat q.val) c31)) 31 = q.val) ∧
  (∀ q : Fin 64, clampToLimit (fmul c63 (fmul (f32OfNat q.val) cRcp63)) 63 = q.val ∧
    clampToLimit (fmul c63 (fdiv (f32OfNat q.val) c63)) 63 = q.val) ∧
  (∀ p : V3, (colorTo565 p).toNat = 2048 * clampToLimit (fmul c31 p.x) 31 +
    32 * clampToLimit (fmul c63 p.y) 63 + clampToLimit (fmul c31 p.z) 31)

/-- R463, with the default tables: a block whose point-making slots (R501: valid, and with A1 of alpha
at least 128) all have one colour decodes, in each of them, with exactly the squared error that
DIAG_SC_ERR reports. R461, R462, with any tables and both values of PARAM_SC_TIE: the orientation of
smaller total error, the endpoints it gives, and the indices. -/
def Obligations.SolidBlocksDecodeWithTheReportedError : Prop :=
  (∀ (s : State) (cf wa a1 : Bool) (r g b : Nat) (makes : Slot → Prop),
    (∀ i, makes i ↔ slotValid s.latch i = true ∧
      (a1 = true → 128 ≤ channelNat (slotPixel s.latch i) 3)) →
    s.params.lut5 = lut5 → s.params.lut6 = lut6 → (∃ i, makes i) →
    (∀ i, makes i → channelNat (slotPixel s.latch i) 0 = r ∧
      channelNat (slotPixel s.latch i) 1 = g ∧ channelNat (slotPixel s.latch i) 2 = b) →
    ∃ t, exec (.encDxt1 cf wa a1) s = .next t ∧
      ∀ i, makes i →
        colourDistance (decodeColour .dxt1 (lowHalf t.blkOut) i) r g b = t.diag.scErr.toNat) ∧
  (∀ (p : Params) (pt : V4) (map : List (Option Nat)),
    let src (o : Nat) : LutTriple × LutTriple × LutTriple :=
      (orientation (lutEntry p.lut5 (channelOf pt.x)) o, orientation (lutEntry p.lut6 (channelOf pt.y)) o,
       orientation (lutEntry p.lut5 (channelOf pt.z)) o)
    let error (o : Nat) : Nat := (src o).1.error.toNat ^ 2 + (src o).2.1.error.toNat ^ 2 +
      (src o).2.2.error.toNat ^ 2
    let o := chosenOrientation p pt
    let f := singleColourFit p pt map
    (o = 1 ↔ error 1 < error 0 ∨ (p.scTie = .second ∧ error 1 = error 0)) ∧ (o = 0 ∨ o = 1) ∧
    chosenError p pt = min (error 0) (error 1) ∧
    f.start = ⟨fdiv (f32OfNat (src o).1.start.toNat) 0x41F80000,
      fdiv (f32OfNat (src o).2.1.start.toNat) 0x427C0000,
      fdiv (f32OfNat (src o).2.2.start.toNat) 0x41F80000⟩ ∧
    f.stop = ⟨fdiv (f32OfNat (src o).1.stop.toNat) 0x41F80000,
      fdiv (f32OfNat (src o).2.1.stop.toNat) 0x427C0000,
      fdiv (f32OfNat (src o).2.2.stop.toNat) 0x41F80000⟩ ∧
    ∀ s : Nat, (map[s]? = some none → f.idx[s]? = some 3) ∧
      (map[s]? = some (some 0) → f.idx[s]? = some (if o = 1 then 2 else 0)))

/-! ## Colour-set builder -/

/-- R501, R506 (4), (5): which slots have no point, how many points there can be, and that every Map
entry names a point; the points are numbered as the slots first make them. R502 to R505: a point's lanes
are the slot's channels over 255, and its weight is the root of the sum, in raster order, of what its
slots add under the WA flag. -/
def Obligations.MapMarksExactlyTheSlotsWithoutAPoint : Prop :=
  ∀ (l : Latch) (mode : BuilderMode) (wa : Bool),
    (colourSet l mode wa).map.length = 16 ∧ (colourSet l mode wa).points.length ≤ 16 ∧
    (∀ i : Slot,
      ((colourSet l mode wa).map[i.val]? = some none ↔
        slotValid l i = false ∨ (mode = .dxt1a ∧ channelNat l.pixIn[i] 3 < 128)) ∧
      (∀ n, (colourSet l mode wa).map[i.val]? = some (some n) →
        ∃ w ws, weightsOf l wa (colourSet l mode wa).map n = w :: ws ∧
          (colourSet l mode wa).points[n]? = some
            ⟨fdiv (f32OfNat (channelNat l.pixIn[i] 0)) 0x437F0000,
             fdiv (f32OfNat (channelNat l.pixIn[i] 1)) 0x437F0000,
             fdiv (f32OfNat (channelNat l.pixIn[i] 2)) 0x437F0000, fsqrt (ws.foldl fadd w)⟩)) ∧
    (∀ (i : Slot) (m n : Nat), (colourSet l mode wa).map[i.val]? = some (some n) → m < n →
      ∃ k : Slot, k < i ∧ (colourSet l mode wa).map[k.val]? = some (some m)) ∧
    (∀ n, n < (colourSet l mode wa).points.length →
      ∃ i : Slot, (colourSet l mode wa).map[i.val]? = some (some n)) ∧
    ((colourSet l mode wa).points = [] ↔ ∀ m ∈ (colourSet l mode wa).map, m = none)

/-- R500, R502: two slots that make points share one exactly when their R, G and B are equal; alpha
never takes part. -/
def Obligations.SlotsShareAPointExactlyWhenColoursAreEqual : Prop :=
  ∀ (l : Latch) (mode : BuilderMode) (wa : Bool) (i j : Slot) (m n : Nat),
    (colourSet l mode wa).map[i.val]? = some (some m) →
    (colourSet l mode wa).map[j.val]? = some (some n) →
    (m = n ↔ rgbOf (slotPixel l i) = rgbOf (slotPixel l j))

/-! ## Range-fit -/

/-- R551, R552 (3): with no NaN projection the endpoints are the first point of smallest and the first
of largest projection. R555: with every distance below BIG each point takes the lowest of its nearest
codes. R553: the grid level of every lane that is a number. R550 to R555, as the fit: its endpoints are
the quantised extremes (zero for no point), and each slot with a point has the lowest nearest of the four
codes that R554 makes of them. R509, R510: the axis the fitters project on. -/
def Obligations.RangeFitTakesExtremesAndNearestCodes : Prop :=
  (∀ (axis : V3) (ps : List V4), ps ≠ [] →
    (∀ r ∈ ps, isNaN (dot3 (xyz r) axis) = false) →
    ∃ (i j : Nat) (p q : V4), ps[i]? = some p ∧ ps[j]? = some q ∧
      extremes axis ps = (xyz p, xyz q) ∧
      (∀ r ∈ ps, flt (dot3 (xyz r) axis) (dot3 (xyz p) axis) = false ∧
        flt (dot3 (xyz q) axis) (dot3 (xyz r) axis) = false) ∧
      (∀ k r, k < i → ps[k]? = some r → flt (dot3 (xyz p) axis) (dot3 (xyz r) axis) = true) ∧
      (∀ k r, k < j → ps[k]? = some r → flt (dot3 (xyz r) axis) (dot3 (xyz q) axis) = true)) ∧
  (∀ (p : V4) (codes : List V3), codes.length = 4 →
    (∀ c ∈ codes, flt (codeDistance p c) cBig = true) →
    ∃ c, codes[(nearestCode codes p).toNat]? = some c ∧
      (∀ c' ∈ codes, flt (codeDistance p c') (codeDistance p c) = false) ∧
      (∀ k c', k < (nearestCode codes p).toNat → codes[k]? = some c' →
        flt (codeDistance p c) (codeDistance p c') = true)) ∧
  (∀ (fused : Bool) (v : V3), isNaN v.x = false → isNaN v.y = false → isNaN v.z = false →
    quantised fused v (quant3 fused v)) ∧
  (∀ (p : Params) (cs : ColourSet) (axis : V3),
    let f := rangeFit p cs axis
    (cs.points = [] → f.start = ⟨0, 0, 0⟩ ∧ f.stop = ⟨0, 0, 0⟩) ∧
    (cs.points ≠ [] → (∀ r ∈ cs.points, isNaN (dot3 (xyz r) axis) = false) →
      ∃ (i j : Nat) (a b : V4), cs.points[i]? = some a ∧ cs.points[j]? = some b ∧
        quantised p.maddFused (xyz a) f.start ∧ quantised p.maddFused (xyz b) f.stop ∧
        (∀ r ∈ cs.points, flt (dot3 (xyz r) axis) (dot3 (xyz a) axis) = false ∧
          flt (dot3 (xyz b) axis) (dot3 (xyz r) axis) = false) ∧
        (∀ k r, k < i → cs.points[k]? = some r →
          flt (dot3 (xyz a) axis) (dot3 (xyz r) axis) = true) ∧
        (∀ k r, k < j → cs.points[k]? = some r →
          flt (dot3 (xyz r) axis) (dot3 (xyz b) axis) = true)) ∧
    f.idx.length = cs.map.length ∧
    ∀ s : Nat, (cs.map[s]? = some none → f.idx[s]? = some 3) ∧
      (∀ m pt, cs.map[s]? = some (some m) → cs.points[m]? = some pt →
        ∃ j, f.idx[s]? = some j ∧ lowestNearest (rangePalette f.start f.stop) pt j.toNat)) ∧
  (∀ (p : Params) (ps : List V4),
    principalAxis p ps = (axisStep p.recipEps ps)^[p.paIter] ⟨0x3F800000, 0x3F800000, 0x3F800000⟩)

/-! ## Cluster-fit -/

/-- R605: the partitions of a pass are exactly the loop's, each once, in lexicographic order, with the
run sums accumulated as the loop implies. -/
def Obligations.PartitionsAreThoseOfTheLoop : Prop :=
  ∀ pw : List V4, pw ≠ [] →
    (partitions pw).length + 2 = (pw.length + 3).choose 3 ∧
    (partitions pw).Pairwise (fun t u =>
      t.i < u.i ∨ (t.i = u.i ∧ (t.j < u.j ∨ (t.j = u.j ∧ t.k < u.k)))) ∧
    (∀ i j k : Nat, (∃ t ∈ partitions pw, t.i = i ∧ t.j = j ∧ t.k = k) ↔
      i ≤ j ∧ j ≤ k ∧ k ≤ pw.length ∧ i < pw.length ∧ ¬ (i = 0 ∧ j = 0 ∧ k = 0)) ∧
    (∀ t ∈ partitions pw,
      t.part0 = (pw.take t.i).foldl (fun acc q => vadd q acc) vzero ∧
      t.part1 = ((pw.take t.j).drop t.i).foldl (fun acc q => vadd q acc) vzero ∧
      t.part2 =
        if t.j = 0 then ((pw.take t.k).drop 1).foldl (fun acc q => vadd q acc) (pw.headD vzero)
        else ((pw.take t.k).drop t.j).foldl (fun acc q => vadd q acc) vzero)

/-- R602, R603: an ordering is a permutation of the point numbers, ascending in projection, and equal
projections keep their point order. -/
def Obligations.OrderingIsAStableSort : Prop :=
  ∀ (axis : V3) (ps : List V4),
    (pointOrder axis ps).Perm (List.range ps.length) ∧
    ((∀ p ∈ ps, isNaN (dot3 (xyz p) axis) = false) →
      (pointOrder axis ps).Pairwise (fun i j =>
        let di := dot3 (xyz (ps.getD i vzero)) axis
        let dj := dot3 (xyz (ps.getD j vzero)) axis
        flt di dj = true ∨ (feq di dj = true ∧ i < j)))

/-- R609: a pass keeps the first visited of the partitions with the smallest error, if that is below
the error it started from; NaN errors never update. R603, R605: under PARAM_CF_TIE = serial a pass so
searches the partitions of the weighted points in its order. R606 to R608: the endpoints and the error
of a partition, lane by lane, from its sums; where the error is a number the endpoints are grid colours
(R607, R613). -/
def Obligations.SerialPassKeepsTheFirstSmallest : Prop :=
  (∀ (it : Nat) (best : Best) (cs : List Candidate),
    (passSerial it best cs = best ∧ ∀ c ∈ cs, flt c.error best.error = false) ∨
    (∃ before c after, cs = before ++ c :: after ∧ flt c.error best.error = true ∧
      passSerial it best cs = ⟨c.error, c.start, c.stop, c.i, c.j, c.k, it⟩ ∧
      (∀ d ∈ before, isNaN d.error = true ∨ flt c.error d.error = true) ∧
      (∀ d ∈ after, flt d.error c.error = false))) ∧
  (∀ (p : Params) (draw : Nat) (ps : List V4) (order : List Nat) (it : Nat) (best : Best),
    p.cfTie = .serial → runPass p draw ps order it best = passSerial it best
      ((partitions (orderedPoints ps order)).map (evaluate p (orderedTotal ps order)))) ∧
  (∀ (p : Params) (xs : V4) (t : Partition),
    let x := laneFit p xs t V4.x 0x41F80000 0x3D042108
    let y := laneFit p xs t V4.y 0x427C0000 0x3C820821
    let z := laneFit p xs t V4.z 0x41F80000 0x3D042108
    evaluate p xs t = ⟨t.i, t.j, t.k, ⟨x.1, y.1, z.1⟩, ⟨x.2.1, y.2.1, z.2.1⟩,
      fadd (fadd x.2.2 y.2.2) z.2.2⟩ ∧
    (isNaN (evaluate p xs t).error = false →
      gridColour (evaluate p xs t).start ∧ gridColour (evaluate p xs t).stop))

/-- R612: under PARAM_CF_TIE = any the error, the iteration and whether the pass improved are as under
serial, and an improving pass keeps one of its partitions whose error equals the smallest, whatever
the free choice; and a pass under any is such a search of its partitions. -/
def Obligations.AnyTieKeepsTheSerialErrorAndPass : Prop :=
  (∀ (pick it : Nat) (best : Best) (cs : List Candidate),
    (passAny pick it best cs).error = (passSerial it best cs).error ∧
    (passAny pick it best cs).iter = (passSerial it best cs).iter ∧
    ((∀ c ∈ cs, flt c.error best.error = false) → passAny pick it best cs = best) ∧
    ((∃ c ∈ cs, flt c.error best.error = true) →
      ∃ c ∈ cs, feq c.error (passSerial it best cs).error = true ∧
        (passAny pick it best cs).start = c.start ∧ (passAny pick it best cs).stop = c.stop ∧
        (passAny pick it best cs).i = c.i ∧ (passAny pick it best cs).j = c.j ∧
        (passAny pick it best cs).k = c.k)) ∧
  (∀ (p : Params) (draw : Nat) (ps : List V4) (order : List Nat) (it : Nat) (best : Best),
    p.cfTie = .any → ∃ pick, runPass p draw ps order it best = passAny pick it best
      ((partitions (orderedPoints ps order)).map (evaluate p (orderedTotal ps order))))

/-- R611: between 1 and 8 passes; the best pass is one of those run, its runs are in order, and every
pass has its own ordering. R602, R611: the records after the passes, each pass's ordering, and why the
last pass is the last. R607, R613: the recorded endpoints are grid colours. -/
def Obligations.ClusterSearchRunsAtMostEightPasses : Prop :=
  ∀ (p : Params) (draw : Nat) (ps : List V4) (axis : V3),
    let r := clusterSearch p draw ps axis
    1 ≤ r.passes ∧ r.passes ≤ 8 ∧ r.orders.length = r.passes ∧ r.best.iter < r.passes ∧
    r.best.i ≤ r.best.j ∧ r.best.j ≤ r.best.k ∧ r.best.k ≤ ps.length ∧ r.orders.Nodup ∧
    r.orders[0]? = some (pointOrder axis ps) ∧ gridColour r.best.start ∧ gridColour r.best.stop ∧
    (∃ record : Nat → Best,
      record 0 = ⟨0x7CF0BDC2, ⟨0, 0, 0⟩, ⟨0, 0, 0⟩, 0, 0, 0, 0⟩ ∧ record r.passes = r.best ∧
      (∀ it order, r.orders[it]? = some order →
        record (it + 1) = runPass p draw ps order it (record it)) ∧
      (∀ it, it + 1 < r.passes → (record (it + 1)).iter = it ∧
        r.orders[it + 1]? = some (pointOrder (nextAxis (record (it + 1))) ps))) ∧
    (r.best.iter + 1 ≠ r.passes ∨ r.passes = 8 ∨ pointOrder (nextAxis r.best) ps ∈ r.orders)

/-! ## Serializer -/

/-- R654: in every colour block an encode emits, color0 >= color1 and equal endpoints have index 0 in
every slot; so the block of ENC_DXT1 decodes alike in the DXT1 and the FOUR mode, to color0 alone
where the endpoints are equal. -/
def Obligations.EmittedColourBlocksAreInOrder : Prop :=
  ∀ (s : State) (cf wa a1 : Bool), ∃ t1 t3 t5,
    exec (.encDxt1 cf wa a1) s = .next t1 ∧ exec (.encDxt3 cf wa) s = .next t3 ∧
    exec (.encDxt5 cf wa) s = .next t5 ∧
    (∀ b ∈ [lowHalf t1.blkOut, highHalf t3.blkOut, highHalf t5.blkOut],
      (color1 b).toNat ≤ (color0 b).toNat ∧
      (color0 b = color1 b → ∀ i : Slot, storedIndex b i = 0)) ∧
    (∀ i : Slot,
      decodeColour .dxt1 (lowHalf t1.blkOut) i = decodeColour .four (lowHalf t1.blkOut) i ∧
      (color0 (lowHalf t1.blkOut) = color1 (lowHalf t1.blkOut) →
        decodeColour .dxt1 (lowHalf t1.blkOut) i = unpack565 (color0 (lowHalf t1.blkOut))))

/-- R655: two fits with the endpoints exchanged and the same palette colours give the same bytes. -/
def Obligations.ExchangedEndpointsGiveTheSameBlock : Prop :=
  ∀ (a b : BitVec 16) (idx : List (BitVec 2)), idx.length = 16 →
    serializePacked a b idx = serializePacked b a (idx.map fun i => i ^^^ 1)

/-- R652: what the remapping puts into each slot. R653: what the bytes of a serialized fit hold, slot by
slot. -/
def Obligations.SerializerStoresEndpointsAndIndices : Prop :=
  (∀ (map : List (Option Nat)) (src : List (BitVec 2)),
    (remapIndices map src).length = map.length ∧
    ∀ s : Nat,
      (map[s]? = some none → (remapIndices map src)[s]? = some 3) ∧
      (∀ m v, map[s]? = some (some m) → src[m]? = some v → (remapIndices map src)[s]? = some v)) ∧
  (∀ (start stop : V3) (idx : List (BitVec 2)), idx.length = 16 →
    let a := colorTo565 start
    let b := colorTo565 stop
    let blk := serialize start stop idx
    byteNat blk 0 + 256 * byteNat blk 1 = max a.toNat b.toNat ∧
    byteNat blk 2 + 256 * byteNat blk 3 = min a.toNat b.toNat ∧
    ∀ i : Slot, byteNat blk (4 + i.val / 4) / 4 ^ (i.val % 4) % 4 =
      (if a < b then idx.getD i.val 0 ^^^ 1 else if a = b then 0 else idx.getD i.val 0).toNat)

/-! ## Alpha -/

/-- R702: the two statements of FixRange in signed arithmetic, what they guarantee, and the examples. -/
def Obligations.FixRangeMakesTheStepsAchievable : Prop :=
  (∀ mn mx steps : Nat, mn ≤ 255 → mx ≤ 255 → steps = 5 ∨ steps = 7 →
    let max' : Int := if (mx : Int) - mn < steps then min ((mn : Int) + steps) 255 else mx
    let min' : Int := if max' - mn < steps then max 0 (max' - steps) else mn
    ((fixRange steps ⟨mn, mx⟩).max : Int) = max' ∧ ((fixRange steps ⟨mn, mx⟩).min : Int) = min' ∧
    (fixRange steps ⟨mn, mx⟩).max ≤ 255 ∧
    (fixRange steps ⟨mn, mx⟩).min + steps ≤ (fixRange steps ⟨mn, mx⟩).max) ∧
  fixRange 5 ⟨255, 0⟩ = ⟨250, 255⟩ ∧ fixRange 7 ⟨255, 0⟩ = ⟨248, 255⟩ ∧
  fixRange 7 ⟨0, 7⟩ = ⟨0, 7⟩ ∧ fixRange 7 ⟨0, 0⟩ = ⟨0, 7⟩ ∧
  fixRange 5 ⟨50, 50⟩ = ⟨50, 55⟩ ∧ fixRange 5 ⟨253, 253⟩ = ⟨250, 255⟩

/-- R721, R700 to R705, R708 (1): ENC_ALPHA_INTERP completes. The ranges are FixRange of the least and
greatest valid alphas, without 0 and 255 for the 5-step one; each reported error is the total of the
least squared distances from that topology's 8 codes; the end values are those of the topology of
smaller error, the 5-step one in a tie. Its block decodes with the smaller error in total, each valid
slot to the nearest code, the first of them in the encoder's numbering; an invalid slot holds 0, or 1
after a 7-step selection. -/
def Obligations.AlphaRoundTripErrorIsTheReportedOne : Prop :=
  ∀ s : State, ∃ t, exec .encAlphaInterp s = .next t ∧
    t = { s with
      blkOut := t.blkOut, diag := t.diag
      status := { busy := false, done := true, errcode := s.status.errcode } } ∧
    let as := validAlphas s.latch
    let r5 := fixRange 5 ⟨(as.filter fun a => a != 0).foldl min 255,
      (as.filter fun a => a != 255).foldl max 0⟩
    let r7 := fixRange 7 ⟨as.foldl min 255, as.foldl max 0⟩
    let lo := lowHalf t.blkOut
    let alpha0 := byteNat lo 0
    let alpha1 := byteNat lo 1
    ((slots.filter fun i => slotValid s.latch i).map fun i =>
      squaredDifference (channelNat (slotPixel s.latch i) 3) (decodeAlphaInterp lo i).toNat).sum =
      min t.diag.aErr5.toNat t.diag.aErr7.toNat ∧
    (∀ k : Fin 8, t.blkOut[k.val + 8] = 0) ∧
    t.diag.fit = 0 ∧ t.diag.cfErr = 0 ∧ t.diag.cfBest = 0 ∧ t.diag.scErr = 0 ∧
    t.diag.aRange.toNat = r5.min + 2 ^ 8 * r5.max + 2 ^ 16 * r7.min + 2 ^ 24 * r7.max ∧
    t.diag.aErr5.toNat = (as.map (leastDistance r5.min r5.max)).sum ∧
    t.diag.aErr7.toNat = (as.map (leastDistance r7.max r7.min)).sum ∧
    (t.diag.aSel = 0 ∨ t.diag.aSel = 1) ∧
    (t.diag.aSel = 1 ↔ t.diag.aErr7.toNat < t.diag.aErr5.toNat) ∧
    (t.diag.aSel = 1 ↔ alpha1 < alpha0) ∧
    (t.diag.aSel = 1 → alpha0 = r7.max ∧ alpha1 = r7.min) ∧
    (t.diag.aSel = 0 → alpha0 = r5.min ∧ alpha1 = r5.max) ∧
    (∀ i : Slot, slotValid s.latch i = false → codeAt lo i = t.diag.aSel.toNat) ∧
    (∀ (i : Slot) (c : Nat), slotValid s.latch i = true → c < 8 →
      squaredDifference (channelNat (slotPixel s.latch i) 3) (decodeAlphaInterp lo i).toNat ≤
        squaredDifference (channelNat (slotPixel s.latch i) 3) (codeValue alpha0 alpha1 c) ∧
      (encoderCode (t.diag.aSel == 1) c < encoderCode (t.diag.aSel == 1) (codeAt lo i) →
        squaredDifference (channelNat (slotPixel s.latch i) 3) (decodeAlphaInterp lo i).toNat <
          squaredDifference (channelNat (slotPixel s.latch i) 3) (codeValue alpha0 alpha1 c)))

/-- R710, R720, R311: the nibble of every slot, low nibble first, and the frame. -/
def Obligations.ExplicitAlphaStoresTheNearestLevel : Prop :=
  ∀ s : State, ∃ t, exec .encAlphaExplicit s = .next t ∧
    t = { s with
      blkOut := t.blkOut, diag := ⟨0, 0, 0, 0, 0, 0, 0, 0⟩
      status := { busy := false, done := true, errcode := s.status.errcode } } ∧
    (∀ i : Slot, byteNat (lowHalf t.blkOut) (i.val / 2) / 16 ^ (i.val % 2) % 16 =
      if slotValid s.latch i = true then ((pixA (slotPixel s.latch i)).toNat + 8) / 17 else 0) ∧
    (∀ k : Fin 8, t.blkOut[k.val + 8] = 0)

/-- R711: the decoded value of every slot; decoding then encoding an explicit alpha block returns it,
and encoding a list of alpha values of at most 255, as every alpha list of R507 is, loses at most 8. -/
def Obligations.ExplicitAlphaIsAnIdentityOnBlocks : Prop :=
  (∀ (b : Block8) (i : Slot),
    let q := byteNat b (i.val / 2) / 16 ^ (i.val % 2) % 16
    (decodeAlphaExplicit b i).toNat = 17 * q ∧ 17 * q = (q <<< 4) ||| q) ∧
  (∀ b : Block8,
    encodeAlphaExplicit (slots.map fun i => some (decodeAlphaExplicit b i).toNat) = b) ∧
  (∀ as : List (Option Nat), as.length = 16 → (∀ a : Nat, some a ∈ as → a ≤ 255) →
    ∀ (i : Slot) (a : Nat), as[i.val]? = some (some a) →
    (((decodeAlphaExplicit (encodeAlphaExplicit as) i).toNat : Int) - a).natAbs ≤ 8) ∧
  (∀ (l : Latch) (a : Nat), some a ∈ alphaList l → a ≤ 255)

/-- R707, R312: the value of every slot of an interpolated alpha block, in numbers. -/
def Obligations.InterpolatedAlphaDecodesByItsCode : Prop :=
  ∀ (b : Block8) (i : Slot),
    let a0 := byteNat b 0
    let a1 := byteNat b 1
    let v := byteNat b 2 + byteNat b 3 * 2 ^ 8 + byteNat b 4 * 2 ^ 16 + byteNat b 5 * 2 ^ 24 +
      byteNat b 6 * 2 ^ 32 + byteNat b 7 * 2 ^ 40
    let c := v / 2 ^ (3 * i.val) % 8
    (decodeAlphaInterp b i).toNat =
      if c = 0 then a0
      else if c = 1 then a1
      else if a0 > a1 then ((8 - c) * a0 + (c - 1) * a1) / 7
      else if c = 6 then 0
      else if c = 7 then 255
      else ((6 - c) * a0 + (c - 1) * a1) / 5

/-! ## Decode commands -/

/-- R751 to R753: every channel of every decoded slot, in numbers. -/
def Obligations.ColourBlocksDecodeByTheirPalette : Prop :=
  ∀ (mode : PaletteMode) (b : Block8) (i : Slot),
    let c0 := byteNat b 0 + 256 * byteNat b 1
    let c1 := byteNat b 2 + 256 * byteNat b 3
    let p0 := unpackedChannels c0
    let p1 := unpackedChannels c1
    let four := mode == .four || decide (c1 < c0)
    let idx := byteNat b (4 + i.val / 4) / 4 ^ (i.val % 4) % 4
    let px := decodeColour mode b i
    px.r = paletteChannel four idx p0.1 p1.1 ∧
    px.g = paletteChannel four idx p0.2.1 p1.2.1 ∧
    px.b = paletteChannel four idx p0.2.2 p1.2.2 ∧
    px.a = (if four = false ∧ idx = 3 then 0 else 255) ∧
    px.r ≤ 255 ∧ px.g ≤ 255 ∧ px.b ≤ 255

/-- R760 to R763, R722, R723: the pixel each decode command writes to each slot, as the number R117
lays out, and nothing else. -/
def Obligations.DecodeCommandsWritePixOut : Prop :=
  ∀ s : State,
    let lo := lowHalf s.latch.blkIn
    let hi := highHalf s.latch.blkIn
    exec .decDxt1 s = .next (afterDecode s fun i =>
      let c := decodeColour .dxt1 lo i
      pixelNumber c.r c.g c.b c.a) ∧
    exec .decDxt3 s = .next (afterDecode s fun i =>
      let c := decodeColour .four hi i
      pixelNumber c.r c.g c.b (decodeAlphaExplicit lo i).toNat) ∧
    exec .decDxt5 s = .next (afterDecode s fun i =>
      let c := decodeColour .four hi i
      pixelNumber c.r c.g c.b (decodeAlphaInterp lo i).toNat) ∧
    exec .decColor4 s = .next (afterDecode s fun i =>
      let c := decodeColour .four lo i
      pixelNumber c.r c.g c.b 255) ∧
    exec .decAlphaExplicit s = .next (afterDecode s fun i =>
      pixelNumber 0 0 0 (decodeAlphaExplicit lo i).toNat) ∧
    exec .decAlphaInterp s = .next (afterDecode s fun i =>
      pixelNumber 0 0 0 (decodeAlphaInterp lo i).toNat)

/-! ## Encode commands -/

/-- R800 to R803, R805: the block and the diagnostic registers of every colour encode, and nothing
else. R610: a point's place in the best ordering decides the index of its slots under cluster-fit. -/
def Obligations.EncodeCommandsFollowThePipeline : Prop :=
  (∀ (s : State) (cf wa a1 : Bool),
    (let cs := colourSet s.latch (if a1 = true then .dxt1a else .dxt1) wa
     let f := pipelineFit s.params s.freeTies cs cf
     exec (.encDxt1 cf wa a1) s = .next (afterEncode s
       (serialize f.start f.stop f.idx ++ (Vector.replicate 8 0 : Block8))
       (pipelineDiag s.params s.freeTies cs cf) (pipelineDraws s.params cs cf))) ∧
    (let cs := colourSet s.latch .dxt5 wa
     let f := pipelineFit s.params s.freeTies cs cf
     let d := pipelineDiag s.params s.freeTies cs cf
     let c := chooseAlpha (alphaList s.latch)
     exec (.encDxt3 cf wa) s = .next (afterEncode s
       (encodeAlphaExplicit (alphaList s.latch) ++ serialize f.start f.stop f.idx) d
       (pipelineDraws s.params cs cf)) ∧
     exec (.encDxt5 cf wa) s = .next (afterEncode s
       (packAlpha c.a0 c.a1 c.ind ++ serialize f.start f.stop f.idx)
       { d with
         aErr5 := BitVec.ofNat 32 c.err5, aErr7 := BitVec.ofNat 32 c.err7
         aSel := if c.err7 < c.err5 then 1 else 0
         aRange := BitVec.ofNat 32 (c.range5.min + c.range5.max * 2 ^ 8 + c.range7.min * 2 ^ 16 +
           c.range7.max * 2 ^ 24) }
       (pipelineDraws s.params cs cf)))) ∧
  (∀ (cs : ColourSet) (r : ClusterResult) (order : List Nat),
    r.orders[r.best.iter]? = some order → order.Perm (List.range cs.points.length) →
    (clusterFit cs r).start = r.best.start ∧ (clusterFit cs r).stop = r.best.stop ∧
    ∀ s : Nat,
      (cs.map[s]? = some none → (clusterFit cs r).idx[s]? = some 3) ∧
      (∀ m t, cs.map[s]? = some (some m) → order[t]? = some m →
        (clusterFit cs r).idx[s]? = some
          (if t < r.best.i then 0 else if t < r.best.j then 2 else if t < r.best.k then 3 else 1)))

/-- R801: with no valid slot ENC_DXT1 emits the all-zero block and reports range-fit on no point,
whatever its flags, the parameters and the pixels. -/
def Obligations.NoValidSlotGivesTheZeroBlock : Prop :=
  ∀ (s : State) (cf wa a1 : Bool), s.latch.valid = 0 →
    ∃ t, exec (.encDxt1 cf wa a1) s = .next t ∧
      (∀ k : Fin 16, t.blkOut[k] = 0) ∧ t.diag = ⟨0x00000002, 0, 0, 0, 0, 0, 0, 0⟩

/-- R802: the colour half of ENC_DXT3, and of ENC_DXT5, is that of ENC_DXT1 with A1 = 0. R802, R803:
their alpha halves, and ENC_DXT5's alpha registers, are those of the alpha encodes. -/
def Obligations.ColourHalvesAgreeAcrossFormats : Prop :=
  ∀ (s : State) (cf wa : Bool), ∃ t1 t3 t5 u3 u5,
    exec (.encDxt1 cf wa false) s = .next t1 ∧ exec (.encDxt3 cf wa) s = .next t3 ∧
    exec (.encDxt5 cf wa) s = .next t5 ∧
    exec .encAlphaExplicit s = .next u3 ∧ exec .encAlphaInterp s = .next u5 ∧
    lowHalf t3.blkOut = lowHalf u3.blkOut ∧ lowHalf t5.blkOut = lowHalf u5.blkOut ∧
    t5.diag.aErr5 = u5.diag.aErr5 ∧ t5.diag.aErr7 = u5.diag.aErr7 ∧
    t5.diag.aSel = u5.diag.aSel ∧ t5.diag.aRange = u5.diag.aRange ∧
    highHalf t3.blkOut = lowHalf t1.blkOut ∧ highHalf t5.blkOut = lowHalf t1.blkOut ∧
    t3.diag = t1.diag ∧ t5.diag.fit = t1.diag.fit ∧ t5.diag.cfErr = t1.diag.cfErr ∧
    t5.diag.cfBest = t1.diag.cfBest ∧ t5.diag.scErr = t1.diag.scErr
end

