-- ==== Sys2Proof/Laws/Blocks.lean ====
section
/-! SUPPORT. How the forms of a block fit together: halves and joins, bytes and the little-endian
value, and the fields of register words. -/

namespace Sys2Proof.Machine

/-! ## Halves (30_encoding.md R313) -/

@[simp] theorem lowHalf_joinHalves (lo hi : Block8) : lowHalf (joinHalves lo hi) = lo := by
  apply Vector.ext
  intro k hk
  simp only [lowHalf, joinHalves, Vector.getElem_ofFn]
  rw [Vector.getElem_append]
  simp [hk]

@[simp] theorem highHalf_joinHalves (lo hi : Block8) : highHalf (joinHalves lo hi) = hi := by
  apply Vector.ext
  intro k hk
  simp only [highHalf, joinHalves, Vector.getElem_ofFn]
  rw [Vector.getElem_append]
  simp

/-! ## The little-endian value (20_memory.md R200) -/

theorem blockOfValue_getElem (v : BitVec 64) (k : Nat) (h : k < 8) :
    (blockOfValue v)[k] = v.extractLsb' (8 * k) 8 := by
  simp [blockOfValue]

theorem blockValue_blockOfValue (v : BitVec 64) : blockValue (blockOfValue v) = v := by
  unfold blockValue
  simp only [blockOfValue_getElem]
  ext i hi
  simp only [BitVec.getElem_append, BitVec.getElem_extractLsb']
  repeat' split
  all_goals (rw [BitVec.getLsbD_eq_getElem (by omega)]; congr 1; omega)

theorem blockOfValue_blockValue (b : Block8) : blockOfValue (blockValue b) = b := by
  apply Vector.ext
  intro k hk
  rw [blockOfValue_getElem _ k hk]
  ext i hi
  rw [BitVec.getElem_extractLsb']
  unfold blockValue
  have hk' : k = 0 ∨ k = 1 ∨ k = 2 ∨ k = 3 ∨ k = 4 ∨ k = 5 ∨ k = 6 ∨ k = 7 := by omega
  rw [BitVec.getLsbD_append (n := 56), BitVec.getLsbD_append (n := 48),
    BitVec.getLsbD_append (n := 40), BitVec.getLsbD_append (n := 32),
    BitVec.getLsbD_append (n := 24), BitVec.getLsbD_append (n := 16),
    BitVec.getLsbD_append (n := 8)]
  rcases hk' with rfl | rfl | rfl | rfl | rfl | rfl | rfl | rfl
  all_goals
    repeat' split
    all_goals first | omega | (rw [BitVec.getLsbD_eq_getElem (by omega)]; congr 1; omega)

/-! ## Bytes of a word -/

theorem byteOfWord_wordOfBytes (a b c d : Byte) :
    byteOfWord (wordOfBytes a b c d) 0 = a ∧ byteOfWord (wordOfBytes a b c d) 1 = b ∧
    byteOfWord (wordOfBytes a b c d) 2 = c ∧ byteOfWord (wordOfBytes a b c d) 3 = d := by
  unfold byteOfWord wordOfBytes
  refine ⟨?_, ?_, ?_, ?_⟩
  all_goals
    ext i hi
    rw [BitVec.getElem_extractLsb', BitVec.getLsbD_append (n := 24),
      BitVec.getLsbD_append (n := 16), BitVec.getLsbD_append (n := 8)]
    repeat' split
    all_goals first | omega | (rw [BitVec.getLsbD_eq_getElem (by omega)]; congr 1; omega)

/-- The first byte is the lowest. -/
theorem wordOfBytes_toNat (a b c d : Byte) :
    (wordOfBytes a b c d).toNat =
      a.toNat + 256 * b.toNat + 65536 * c.toNat + 2 ^ 24 * d.toNat := by
  have := a.isLt; have := b.isLt; have := c.isLt; have := d.isLt
  rw [wordOfBytes, BitVec.toNat_append, BitVec.toNat_append, BitVec.toNat_append,
    ← Nat.shiftLeft_add_eq_or_of_lt a.isLt, ← Nat.shiftLeft_add_eq_or_of_lt b.isLt,
    ← Nat.shiftLeft_add_eq_or_of_lt c.isLt]
  omega

end Sys2Proof.Machine
end

