-- ==== Sys2Proof/Laws/State.lean ====
section
/-! SUPPORT. One lemma per field per update of the state, so that no later proof unfolds a record
update; and what a host write to a register leaves alone. -/

namespace Sys2Proof.Machine

/-! ## setStatus -/

@[simp] theorem setStatus_cmd (st : Status) (s : State) : (setStatus st s).cmd = s.cmd := rfl
@[simp] theorem setStatus_status (st : Status) (s : State) : (setStatus st s).status = st := rfl
@[simp] theorem setStatus_valid (st : Status) (s : State) : (setStatus st s).valid = s.valid := rfl
@[simp] theorem setStatus_pixIn (st : Status) (s : State) : (setStatus st s).pixIn = s.pixIn := rfl
@[simp] theorem setStatus_blkIn (st : Status) (s : State) : (setStatus st s).blkIn = s.blkIn := rfl
@[simp] theorem setStatus_va (st : Status) (s : State) : (setStatus st s).va = s.va := rfl
@[simp] theorem setStatus_vb (st : Status) (s : State) : (setStatus st s).vb = s.vb := rfl
@[simp] theorem setStatus_vc (st : Status) (s : State) : (setStatus st s).vc = s.vc := rfl
@[simp] theorem setStatus_diag (st : Status) (s : State) : (setStatus st s).diag = s.diag := rfl
@[simp] theorem setStatus_pixOut (st : Status) (s : State) : (setStatus st s).pixOut = s.pixOut := rfl
@[simp] theorem setStatus_blkOut (st : Status) (s : State) : (setStatus st s).blkOut = s.blkOut := rfl
@[simp] theorem setStatus_vr (st : Status) (s : State) : (setStatus st s).vr = s.vr := rfl
@[simp] theorem setStatus_latch (st : Status) (s : State) : (setStatus st s).latch = s.latch := rfl
@[simp] theorem setStatus_params (st : Status) (s : State) : (setStatus st s).params = s.params := rfl
@[simp] theorem setStatus_inputs (st : Status) (s : State) : (setStatus st s).inputs = s.inputs := rfl
@[simp] theorem setStatus_readData (st : Status) (s : State) : (setStatus st s).readData = s.readData := rfl
@[simp] theorem setStatus_freeReads (st : Status) (s : State) : (setStatus st s).freeReads = s.freeReads := rfl
@[simp] theorem setStatus_freeTies (st : Status) (s : State) : (setStatus st s).freeTies = s.freeTies := rfl

/-! ## setDiag -/

@[simp] theorem setDiag_cmd (d : Diag) (s : State) : (setDiag d s).cmd = s.cmd := rfl
@[simp] theorem setDiag_status (d : Diag) (s : State) : (setDiag d s).status = s.status := rfl
@[simp] theorem setDiag_valid (d : Diag) (s : State) : (setDiag d s).valid = s.valid := rfl
@[simp] theorem setDiag_pixIn (d : Diag) (s : State) : (setDiag d s).pixIn = s.pixIn := rfl
@[simp] theorem setDiag_blkIn (d : Diag) (s : State) : (setDiag d s).blkIn = s.blkIn := rfl
@[simp] theorem setDiag_va (d : Diag) (s : State) : (setDiag d s).va = s.va := rfl
@[simp] theorem setDiag_vb (d : Diag) (s : State) : (setDiag d s).vb = s.vb := rfl
@[simp] theorem setDiag_vc (d : Diag) (s : State) : (setDiag d s).vc = s.vc := rfl
@[simp] theorem setDiag_diag (d : Diag) (s : State) : (setDiag d s).diag = d := rfl
@[simp] theorem setDiag_pixOut (d : Diag) (s : State) : (setDiag d s).pixOut = s.pixOut := rfl
@[simp] theorem setDiag_blkOut (d : Diag) (s : State) : (setDiag d s).blkOut = s.blkOut := rfl
@[simp] theorem setDiag_vr (d : Diag) (s : State) : (setDiag d s).vr = s.vr := rfl
@[simp] theorem setDiag_latch (d : Diag) (s : State) : (setDiag d s).latch = s.latch := rfl
@[simp] theorem setDiag_params (d : Diag) (s : State) : (setDiag d s).params = s.params := rfl
@[simp] theorem setDiag_inputs (d : Diag) (s : State) : (setDiag d s).inputs = s.inputs := rfl
@[simp] theorem setDiag_readData (d : Diag) (s : State) : (setDiag d s).readData = s.readData := rfl
@[simp] theorem setDiag_freeReads (d : Diag) (s : State) : (setDiag d s).freeReads = s.freeReads := rfl
@[simp] theorem setDiag_freeTies (d : Diag) (s : State) : (setDiag d s).freeTies = s.freeTies := rfl

/-! ## setPixOut -/

@[simp] theorem setPixOut_cmd (p : Vector Word 16) (s : State) : (setPixOut p s).cmd = s.cmd := rfl
@[simp] theorem setPixOut_status (p : Vector Word 16) (s : State) : (setPixOut p s).status = s.status := rfl
@[simp] theorem setPixOut_valid (p : Vector Word 16) (s : State) : (setPixOut p s).valid = s.valid := rfl
@[simp] theorem setPixOut_pixIn (p : Vector Word 16) (s : State) : (setPixOut p s).pixIn = s.pixIn := rfl
@[simp] theorem setPixOut_blkIn (p : Vector Word 16) (s : State) : (setPixOut p s).blkIn = s.blkIn := rfl
@[simp] theorem setPixOut_va (p : Vector Word 16) (s : State) : (setPixOut p s).va = s.va := rfl
@[simp] theorem setPixOut_vb (p : Vector Word 16) (s : State) : (setPixOut p s).vb = s.vb := rfl
@[simp] theorem setPixOut_vc (p : Vector Word 16) (s : State) : (setPixOut p s).vc = s.vc := rfl
@[simp] theorem setPixOut_diag (p : Vector Word 16) (s : State) : (setPixOut p s).diag = s.diag := rfl
@[simp] theorem setPixOut_pixOut (p : Vector Word 16) (s : State) : (setPixOut p s).pixOut = p := rfl
@[simp] theorem setPixOut_blkOut (p : Vector Word 16) (s : State) : (setPixOut p s).blkOut = s.blkOut := rfl
@[simp] theorem setPixOut_vr (p : Vector Word 16) (s : State) : (setPixOut p s).vr = s.vr := rfl
@[simp] theorem setPixOut_latch (p : Vector Word 16) (s : State) : (setPixOut p s).latch = s.latch := rfl
@[simp] theorem setPixOut_params (p : Vector Word 16) (s : State) : (setPixOut p s).params = s.params := rfl
@[simp] theorem setPixOut_inputs (p : Vector Word 16) (s : State) : (setPixOut p s).inputs = s.inputs := rfl
@[simp] theorem setPixOut_readData (p : Vector Word 16) (s : State) : (setPixOut p s).readData = s.readData := rfl
@[simp] theorem setPixOut_freeReads (p : Vector Word 16) (s : State) : (setPixOut p s).freeReads = s.freeReads := rfl
@[simp] theorem setPixOut_freeTies (p : Vector Word 16) (s : State) : (setPixOut p s).freeTies = s.freeTies := rfl

/-! ## setBlkOut -/

@[simp] theorem setBlkOut_cmd (b : Block16) (s : State) : (setBlkOut b s).cmd = s.cmd := rfl
@[simp] theorem setBlkOut_status (b : Block16) (s : State) : (setBlkOut b s).status = s.status := rfl
@[simp] theorem setBlkOut_valid (b : Block16) (s : State) : (setBlkOut b s).valid = s.valid := rfl
@[simp] theorem setBlkOut_pixIn (b : Block16) (s : State) : (setBlkOut b s).pixIn = s.pixIn := rfl
@[simp] theorem setBlkOut_blkIn (b : Block16) (s : State) : (setBlkOut b s).blkIn = s.blkIn := rfl
@[simp] theorem setBlkOut_va (b : Block16) (s : State) : (setBlkOut b s).va = s.va := rfl
@[simp] theorem setBlkOut_vb (b : Block16) (s : State) : (setBlkOut b s).vb = s.vb := rfl
@[simp] theorem setBlkOut_vc (b : Block16) (s : State) : (setBlkOut b s).vc = s.vc := rfl
@[simp] theorem setBlkOut_diag (b : Block16) (s : State) : (setBlkOut b s).diag = s.diag := rfl
@[simp] theorem setBlkOut_pixOut (b : Block16) (s : State) : (setBlkOut b s).pixOut = s.pixOut := rfl
@[simp] theorem setBlkOut_blkOut (b : Block16) (s : State) : (setBlkOut b s).blkOut = b := rfl
@[simp] theorem setBlkOut_vr (b : Block16) (s : State) : (setBlkOut b s).vr = s.vr := rfl
@[simp] theorem setBlkOut_latch (b : Block16) (s : State) : (setBlkOut b s).latch = s.latch := rfl
@[simp] theorem setBlkOut_params (b : Block16) (s : State) : (setBlkOut b s).params = s.params := rfl
@[simp] theorem setBlkOut_inputs (b : Block16) (s : State) : (setBlkOut b s).inputs = s.inputs := rfl
@[simp] theorem setBlkOut_readData (b : Block16) (s : State) : (setBlkOut b s).readData = s.readData := rfl
@[simp] theorem setBlkOut_freeReads (b : Block16) (s : State) : (setBlkOut b s).freeReads = s.freeReads := rfl
@[simp] theorem setBlkOut_freeTies (b : Block16) (s : State) : (setBlkOut b s).freeTies = s.freeTies := rfl

/-! ## setVr -/

@[simp] theorem setVr_cmd (v : V4) (s : State) : (setVr v s).cmd = s.cmd := rfl
@[simp] theorem setVr_status (v : V4) (s : State) : (setVr v s).status = s.status := rfl
@[simp] theorem setVr_valid (v : V4) (s : State) : (setVr v s).valid = s.valid := rfl
@[simp] theorem setVr_pixIn (v : V4) (s : State) : (setVr v s).pixIn = s.pixIn := rfl
@[simp] theorem setVr_blkIn (v : V4) (s : State) : (setVr v s).blkIn = s.blkIn := rfl
@[simp] theorem setVr_va (v : V4) (s : State) : (setVr v s).va = s.va := rfl
@[simp] theorem setVr_vb (v : V4) (s : State) : (setVr v s).vb = s.vb := rfl
@[simp] theorem setVr_vc (v : V4) (s : State) : (setVr v s).vc = s.vc := rfl
@[simp] theorem setVr_diag (v : V4) (s : State) : (setVr v s).diag = s.diag := rfl
@[simp] theorem setVr_pixOut (v : V4) (s : State) : (setVr v s).pixOut = s.pixOut := rfl
@[simp] theorem setVr_blkOut (v : V4) (s : State) : (setVr v s).blkOut = s.blkOut := rfl
@[simp] theorem setVr_vr (v : V4) (s : State) : (setVr v s).vr = v := rfl
@[simp] theorem setVr_latch (v : V4) (s : State) : (setVr v s).latch = s.latch := rfl
@[simp] theorem setVr_params (v : V4) (s : State) : (setVr v s).params = s.params := rfl
@[simp] theorem setVr_inputs (v : V4) (s : State) : (setVr v s).inputs = s.inputs := rfl
@[simp] theorem setVr_readData (v : V4) (s : State) : (setVr v s).readData = s.readData := rfl
@[simp] theorem setVr_freeReads (v : V4) (s : State) : (setVr v s).freeReads = s.freeReads := rfl
@[simp] theorem setVr_freeTies (v : V4) (s : State) : (setVr v s).freeTies = s.freeTies := rfl

/-! ## setInputs -/

@[simp] theorem setInputs_cmd (es : List Event) (s : State) : (setInputs es s).cmd = s.cmd := rfl
@[simp] theorem setInputs_status (es : List Event) (s : State) : (setInputs es s).status = s.status := rfl
@[simp] theorem setInputs_valid (es : List Event) (s : State) : (setInputs es s).valid = s.valid := rfl
@[simp] theorem setInputs_pixIn (es : List Event) (s : State) : (setInputs es s).pixIn = s.pixIn := rfl
@[simp] theorem setInputs_blkIn (es : List Event) (s : State) : (setInputs es s).blkIn = s.blkIn := rfl
@[simp] theorem setInputs_va (es : List Event) (s : State) : (setInputs es s).va = s.va := rfl
@[simp] theorem setInputs_vb (es : List Event) (s : State) : (setInputs es s).vb = s.vb := rfl
@[simp] theorem setInputs_vc (es : List Event) (s : State) : (setInputs es s).vc = s.vc := rfl
@[simp] theorem setInputs_diag (es : List Event) (s : State) : (setInputs es s).diag = s.diag := rfl
@[simp] theorem setInputs_pixOut (es : List Event) (s : State) : (setInputs es s).pixOut = s.pixOut := rfl
@[simp] theorem setInputs_blkOut (es : List Event) (s : State) : (setInputs es s).blkOut = s.blkOut := rfl
@[simp] theorem setInputs_vr (es : List Event) (s : State) : (setInputs es s).vr = s.vr := rfl
@[simp] theorem setInputs_latch (es : List Event) (s : State) : (setInputs es s).latch = s.latch := rfl
@[simp] theorem setInputs_params (es : List Event) (s : State) : (setInputs es s).params = s.params := rfl
@[simp] theorem setInputs_inputs (es : List Event) (s : State) : (setInputs es s).inputs = es := rfl
@[simp] theorem setInputs_readData (es : List Event) (s : State) : (setInputs es s).readData = s.readData := rfl
@[simp] theorem setInputs_freeReads (es : List Event) (s : State) : (setInputs es s).freeReads = s.freeReads := rfl
@[simp] theorem setInputs_freeTies (es : List Event) (s : State) : (setInputs es s).freeTies = s.freeTies := rfl

/-! ## setReadData -/

@[simp] theorem setReadData_cmd (w : Word) (s : State) : (setReadData w s).cmd = s.cmd := rfl
@[simp] theorem setReadData_status (w : Word) (s : State) : (setReadData w s).status = s.status := rfl
@[simp] theorem setReadData_valid (w : Word) (s : State) : (setReadData w s).valid = s.valid := rfl
@[simp] theorem setReadData_pixIn (w : Word) (s : State) : (setReadData w s).pixIn = s.pixIn := rfl
@[simp] theorem setReadData_blkIn (w : Word) (s : State) : (setReadData w s).blkIn = s.blkIn := rfl
@[simp] theorem setReadData_va (w : Word) (s : State) : (setReadData w s).va = s.va := rfl
@[simp] theorem setReadData_vb (w : Word) (s : State) : (setReadData w s).vb = s.vb := rfl
@[simp] theorem setReadData_vc (w : Word) (s : State) : (setReadData w s).vc = s.vc := rfl
@[simp] theorem setReadData_diag (w : Word) (s : State) : (setReadData w s).diag = s.diag := rfl
@[simp] theorem setReadData_pixOut (w : Word) (s : State) : (setReadData w s).pixOut = s.pixOut := rfl
@[simp] theorem setReadData_blkOut (w : Word) (s : State) : (setReadData w s).blkOut = s.blkOut := rfl
@[simp] theorem setReadData_vr (w : Word) (s : State) : (setReadData w s).vr = s.vr := rfl
@[simp] theorem setReadData_latch (w : Word) (s : State) : (setReadData w s).latch = s.latch := rfl
@[simp] theorem setReadData_params (w : Word) (s : State) : (setReadData w s).params = s.params := rfl
@[simp] theorem setReadData_inputs (w : Word) (s : State) : (setReadData w s).inputs = s.inputs := rfl
@[simp] theorem setReadData_readData (w : Word) (s : State) : (setReadData w s).readData = w := rfl
@[simp] theorem setReadData_freeReads (w : Word) (s : State) : (setReadData w s).freeReads = s.freeReads := rfl
@[simp] theorem setReadData_freeTies (w : Word) (s : State) : (setReadData w s).freeTies = s.freeTies := rfl

/-! ## setFreeReads -/

@[simp] theorem setFreeReads_cmd (n : Nat) (s : State) : (setFreeReads n s).cmd = s.cmd := rfl
@[simp] theorem setFreeReads_status (n : Nat) (s : State) : (setFreeReads n s).status = s.status := rfl
@[simp] theorem setFreeReads_valid (n : Nat) (s : State) : (setFreeReads n s).valid = s.valid := rfl
@[simp] theorem setFreeReads_pixIn (n : Nat) (s : State) : (setFreeReads n s).pixIn = s.pixIn := rfl
@[simp] theorem setFreeReads_blkIn (n : Nat) (s : State) : (setFreeReads n s).blkIn = s.blkIn := rfl
@[simp] theorem setFreeReads_va (n : Nat) (s : State) : (setFreeReads n s).va = s.va := rfl
@[simp] theorem setFreeReads_vb (n : Nat) (s : State) : (setFreeReads n s).vb = s.vb := rfl
@[simp] theorem setFreeReads_vc (n : Nat) (s : State) : (setFreeReads n s).vc = s.vc := rfl
@[simp] theorem setFreeReads_diag (n : Nat) (s : State) : (setFreeReads n s).diag = s.diag := rfl
@[simp] theorem setFreeReads_pixOut (n : Nat) (s : State) : (setFreeReads n s).pixOut = s.pixOut := rfl
@[simp] theorem setFreeReads_blkOut (n : Nat) (s : State) : (setFreeReads n s).blkOut = s.blkOut := rfl
@[simp] theorem setFreeReads_vr (n : Nat) (s : State) : (setFreeReads n s).vr = s.vr := rfl
@[simp] theorem setFreeReads_latch (n : Nat) (s : State) : (setFreeReads n s).latch = s.latch := rfl
@[simp] theorem setFreeReads_params (n : Nat) (s : State) : (setFreeReads n s).params = s.params := rfl
@[simp] theorem setFreeReads_inputs (n : Nat) (s : State) : (setFreeReads n s).inputs = s.inputs := rfl
@[simp] theorem setFreeReads_readData (n : Nat) (s : State) : (setFreeReads n s).readData = s.readData := rfl
@[simp] theorem setFreeReads_freeReads (n : Nat) (s : State) : (setFreeReads n s).freeReads = n := rfl
@[simp] theorem setFreeReads_freeTies (n : Nat) (s : State) : (setFreeReads n s).freeTies = s.freeTies := rfl

/-! ## setFreeTies -/

@[simp] theorem setFreeTies_cmd (n : Nat) (s : State) : (setFreeTies n s).cmd = s.cmd := rfl
@[simp] theorem setFreeTies_status (n : Nat) (s : State) : (setFreeTies n s).status = s.status := rfl
@[simp] theorem setFreeTies_valid (n : Nat) (s : State) : (setFreeTies n s).valid = s.valid := rfl
@[simp] theorem setFreeTies_pixIn (n : Nat) (s : State) : (setFreeTies n s).pixIn = s.pixIn := rfl
@[simp] theorem setFreeTies_blkIn (n : Nat) (s : State) : (setFreeTies n s).blkIn = s.blkIn := rfl
@[simp] theorem setFreeTies_va (n : Nat) (s : State) : (setFreeTies n s).va = s.va := rfl
@[simp] theorem setFreeTies_vb (n : Nat) (s : State) : (setFreeTies n s).vb = s.vb := rfl
@[simp] theorem setFreeTies_vc (n : Nat) (s : State) : (setFreeTies n s).vc = s.vc := rfl
@[simp] theorem setFreeTies_diag (n : Nat) (s : State) : (setFreeTies n s).diag = s.diag := rfl
@[simp] theorem setFreeTies_pixOut (n : Nat) (s : State) : (setFreeTies n s).pixOut = s.pixOut := rfl
@[simp] theorem setFreeTies_blkOut (n : Nat) (s : State) : (setFreeTies n s).blkOut = s.blkOut := rfl
@[simp] theorem setFreeTies_vr (n : Nat) (s : State) : (setFreeTies n s).vr = s.vr := rfl
@[simp] theorem setFreeTies_latch (n : Nat) (s : State) : (setFreeTies n s).latch = s.latch := rfl
@[simp] theorem setFreeTies_params (n : Nat) (s : State) : (setFreeTies n s).params = s.params := rfl
@[simp] theorem setFreeTies_inputs (n : Nat) (s : State) : (setFreeTies n s).inputs = s.inputs := rfl
@[simp] theorem setFreeTies_readData (n : Nat) (s : State) : (setFreeTies n s).readData = s.readData := rfl
@[simp] theorem setFreeTies_freeReads (n : Nat) (s : State) : (setFreeTies n s).freeReads = s.freeReads := rfl
@[simp] theorem setFreeTies_freeTies (n : Nat) (s : State) : (setFreeTies n s).freeTies = n := rfl

/-! ## finish -/

@[simp] theorem finish_cmd (s : State) : (finish s).cmd = s.cmd := rfl
@[simp] theorem finish_status (s : State) : (finish s).status = { s.status with busy := false, done := true } := rfl
@[simp] theorem finish_valid (s : State) : (finish s).valid = s.valid := rfl
@[simp] theorem finish_pixIn (s : State) : (finish s).pixIn = s.pixIn := rfl
@[simp] theorem finish_blkIn (s : State) : (finish s).blkIn = s.blkIn := rfl
@[simp] theorem finish_va (s : State) : (finish s).va = s.va := rfl
@[simp] theorem finish_vb (s : State) : (finish s).vb = s.vb := rfl
@[simp] theorem finish_vc (s : State) : (finish s).vc = s.vc := rfl
@[simp] theorem finish_diag (s : State) : (finish s).diag = s.diag := rfl
@[simp] theorem finish_pixOut (s : State) : (finish s).pixOut = s.pixOut := rfl
@[simp] theorem finish_blkOut (s : State) : (finish s).blkOut = s.blkOut := rfl
@[simp] theorem finish_vr (s : State) : (finish s).vr = s.vr := rfl
@[simp] theorem finish_latch (s : State) : (finish s).latch = s.latch := rfl
@[simp] theorem finish_params (s : State) : (finish s).params = s.params := rfl
@[simp] theorem finish_inputs (s : State) : (finish s).inputs = s.inputs := rfl
@[simp] theorem finish_readData (s : State) : (finish s).readData = s.readData := rfl
@[simp] theorem finish_freeReads (s : State) : (finish s).freeReads = s.freeReads := rfl
@[simp] theorem finish_freeTies (s : State) : (finish s).freeTies = s.freeTies := rfl

/-! ## clearDiag -/

@[simp] theorem clearDiag_cmd (s : State) : (clearDiag s).cmd = s.cmd := rfl
@[simp] theorem clearDiag_status (s : State) : (clearDiag s).status = s.status := rfl
@[simp] theorem clearDiag_valid (s : State) : (clearDiag s).valid = s.valid := rfl
@[simp] theorem clearDiag_pixIn (s : State) : (clearDiag s).pixIn = s.pixIn := rfl
@[simp] theorem clearDiag_blkIn (s : State) : (clearDiag s).blkIn = s.blkIn := rfl
@[simp] theorem clearDiag_va (s : State) : (clearDiag s).va = s.va := rfl
@[simp] theorem clearDiag_vb (s : State) : (clearDiag s).vb = s.vb := rfl
@[simp] theorem clearDiag_vc (s : State) : (clearDiag s).vc = s.vc := rfl
@[simp] theorem clearDiag_diag (s : State) : (clearDiag s).diag = Diag.zero := rfl
@[simp] theorem clearDiag_pixOut (s : State) : (clearDiag s).pixOut = s.pixOut := rfl
@[simp] theorem clearDiag_blkOut (s : State) : (clearDiag s).blkOut = s.blkOut := rfl
@[simp] theorem clearDiag_vr (s : State) : (clearDiag s).vr = s.vr := rfl
@[simp] theorem clearDiag_latch (s : State) : (clearDiag s).latch = s.latch := rfl
@[simp] theorem clearDiag_params (s : State) : (clearDiag s).params = s.params := rfl
@[simp] theorem clearDiag_inputs (s : State) : (clearDiag s).inputs = s.inputs := rfl
@[simp] theorem clearDiag_readData (s : State) : (clearDiag s).readData = s.readData := rfl
@[simp] theorem clearDiag_freeReads (s : State) : (clearDiag s).freeReads = s.freeReads := rfl
@[simp] theorem clearDiag_freeTies (s : State) : (clearDiag s).freeTies = s.freeTies := rfl

/-! ## raiseCommandError -/

@[simp] theorem raiseCommandError_cmd (code : BitVec 4) (s : State) : (raiseCommandError code s).cmd = s.cmd := rfl
@[simp] theorem raiseCommandError_status (code : BitVec 4) (s : State) : (raiseCommandError code s).status = { s.status with errcode := code, done := s.status.done || code != errBusy } := rfl
@[simp] theorem raiseCommandError_valid (code : BitVec 4) (s : State) : (raiseCommandError code s).valid = s.valid := rfl
@[simp] theorem raiseCommandError_pixIn (code : BitVec 4) (s : State) : (raiseCommandError code s).pixIn = s.pixIn := rfl
@[simp] theorem raiseCommandError_blkIn (code : BitVec 4) (s : State) : (raiseCommandError code s).blkIn = s.blkIn := rfl
@[simp] theorem raiseCommandError_va (code : BitVec 4) (s : State) : (raiseCommandError code s).va = s.va := rfl
@[simp] theorem raiseCommandError_vb (code : BitVec 4) (s : State) : (raiseCommandError code s).vb = s.vb := rfl
@[simp] theorem raiseCommandError_vc (code : BitVec 4) (s : State) : (raiseCommandError code s).vc = s.vc := rfl
@[simp] theorem raiseCommandError_diag (code : BitVec 4) (s : State) : (raiseCommandError code s).diag = s.diag := rfl
@[simp] theorem raiseCommandError_pixOut (code : BitVec 4) (s : State) : (raiseCommandError code s).pixOut = s.pixOut := rfl
@[simp] theorem raiseCommandError_blkOut (code : BitVec 4) (s : State) : (raiseCommandError code s).blkOut = s.blkOut := rfl
@[simp] theorem raiseCommandError_vr (code : BitVec 4) (s : State) : (raiseCommandError code s).vr = s.vr := rfl
@[simp] theorem raiseCommandError_latch (code : BitVec 4) (s : State) : (raiseCommandError code s).latch = s.latch := rfl
@[simp] theorem raiseCommandError_params (code : BitVec 4) (s : State) : (raiseCommandError code s).params = s.params := rfl
@[simp] theorem raiseCommandError_inputs (code : BitVec 4) (s : State) : (raiseCommandError code s).inputs = s.inputs := rfl
@[simp] theorem raiseCommandError_readData (code : BitVec 4) (s : State) : (raiseCommandError code s).readData = s.readData := rfl
@[simp] theorem raiseCommandError_freeReads (code : BitVec 4) (s : State) : (raiseCommandError code s).freeReads = s.freeReads := rfl
@[simp] theorem raiseCommandError_freeTies (code : BitVec 4) (s : State) : (raiseCommandError code s).freeTies = s.freeTies := rfl

/-! ## accept -/

@[simp] theorem accept_cmd (w : Word) (s : State) : (accept w s).cmd = w := rfl
@[simp] theorem accept_status (w : Word) (s : State) : (accept w s).status = ⟨true, false, errNone⟩ := rfl
@[simp] theorem accept_valid (w : Word) (s : State) : (accept w s).valid = s.valid := rfl
@[simp] theorem accept_pixIn (w : Word) (s : State) : (accept w s).pixIn = s.pixIn := rfl
@[simp] theorem accept_blkIn (w : Word) (s : State) : (accept w s).blkIn = s.blkIn := rfl
@[simp] theorem accept_va (w : Word) (s : State) : (accept w s).va = s.va := rfl
@[simp] theorem accept_vb (w : Word) (s : State) : (accept w s).vb = s.vb := rfl
@[simp] theorem accept_vc (w : Word) (s : State) : (accept w s).vc = s.vc := rfl
@[simp] theorem accept_diag (w : Word) (s : State) : (accept w s).diag = s.diag := rfl
@[simp] theorem accept_pixOut (w : Word) (s : State) : (accept w s).pixOut = s.pixOut := rfl
@[simp] theorem accept_blkOut (w : Word) (s : State) : (accept w s).blkOut = s.blkOut := rfl
@[simp] theorem accept_vr (w : Word) (s : State) : (accept w s).vr = s.vr := rfl
@[simp] theorem accept_latch (w : Word) (s : State) : (accept w s).latch = latchOf w s := rfl
@[simp] theorem accept_params (w : Word) (s : State) : (accept w s).params = s.params := rfl
@[simp] theorem accept_inputs (w : Word) (s : State) : (accept w s).inputs = s.inputs := rfl
@[simp] theorem accept_readData (w : Word) (s : State) : (accept w s).readData = s.readData := rfl
@[simp] theorem accept_freeReads (w : Word) (s : State) : (accept w s).freeReads = s.freeReads := rfl
@[simp] theorem accept_freeTies (w : Word) (s : State) : (accept w s).freeTies = s.freeTies := rfl

/-! ## platformReset -/

@[simp] theorem platformReset_cmd (s : State) : (platformReset s).cmd = State.reset.cmd := rfl
@[simp] theorem platformReset_status (s : State) : (platformReset s).status = State.reset.status := rfl
@[simp] theorem platformReset_valid (s : State) : (platformReset s).valid = State.reset.valid := rfl
@[simp] theorem platformReset_pixIn (s : State) : (platformReset s).pixIn = State.reset.pixIn := rfl
@[simp] theorem platformReset_blkIn (s : State) : (platformReset s).blkIn = State.reset.blkIn := rfl
@[simp] theorem platformReset_va (s : State) : (platformReset s).va = State.reset.va := rfl
@[simp] theorem platformReset_vb (s : State) : (platformReset s).vb = State.reset.vb := rfl
@[simp] theorem platformReset_vc (s : State) : (platformReset s).vc = State.reset.vc := rfl
@[simp] theorem platformReset_diag (s : State) : (platformReset s).diag = State.reset.diag := rfl
@[simp] theorem platformReset_pixOut (s : State) : (platformReset s).pixOut = State.reset.pixOut := rfl
@[simp] theorem platformReset_blkOut (s : State) : (platformReset s).blkOut = State.reset.blkOut := rfl
@[simp] theorem platformReset_vr (s : State) : (platformReset s).vr = State.reset.vr := rfl
@[simp] theorem platformReset_latch (s : State) : (platformReset s).latch = State.reset.latch := rfl
@[simp] theorem platformReset_params (s : State) : (platformReset s).params = s.params := rfl
@[simp] theorem platformReset_inputs (s : State) : (platformReset s).inputs = s.inputs := rfl
@[simp] theorem platformReset_readData (s : State) : (platformReset s).readData = s.readData := rfl
@[simp] theorem platformReset_freeReads (s : State) : (platformReset s).freeReads = s.freeReads := rfl
@[simp] theorem platformReset_freeTies (s : State) : (platformReset s).freeTies = s.freeTies := rfl

/-! ## writeReg: it writes inputs only (10_state.md R101, 20_memory.md R204) -/

@[simp] theorem writeReg_cmd (v : Word) (s : State) (r : Reg) : (writeReg v s r).cmd = s.cmd := by
  cases r <;> rfl
@[simp] theorem writeReg_status (v : Word) (s : State) (r : Reg) : (writeReg v s r).status = s.status := by
  cases r <;> rfl
@[simp] theorem writeReg_diag (v : Word) (s : State) (r : Reg) : (writeReg v s r).diag = s.diag := by
  cases r <;> rfl
@[simp] theorem writeReg_pixOut (v : Word) (s : State) (r : Reg) : (writeReg v s r).pixOut = s.pixOut := by
  cases r <;> rfl
@[simp] theorem writeReg_blkOut (v : Word) (s : State) (r : Reg) : (writeReg v s r).blkOut = s.blkOut := by
  cases r <;> rfl
@[simp] theorem writeReg_vr (v : Word) (s : State) (r : Reg) : (writeReg v s r).vr = s.vr := by
  cases r <;> rfl
@[simp] theorem writeReg_latch (v : Word) (s : State) (r : Reg) : (writeReg v s r).latch = s.latch := by
  cases r <;> rfl
@[simp] theorem writeReg_params (v : Word) (s : State) (r : Reg) : (writeReg v s r).params = s.params := by
  cases r <;> rfl
@[simp] theorem writeReg_inputs (v : Word) (s : State) (r : Reg) : (writeReg v s r).inputs = s.inputs := by
  cases r <;> rfl
@[simp] theorem writeReg_readData (v : Word) (s : State) (r : Reg) : (writeReg v s r).readData = s.readData := by
  cases r <;> rfl
@[simp] theorem writeReg_freeReads (v : Word) (s : State) (r : Reg) : (writeReg v s r).freeReads = s.freeReads := by
  cases r <;> rfl
@[simp] theorem writeReg_freeTies (v : Word) (s : State) (r : Reg) : (writeReg v s r).freeTies = s.freeTies := by
  cases r <;> rfl

end Sys2Proof.Machine
end

