-- ==== Sys2Proof/Laws/Ops.lean ====
section
/-! SUPPORT. What each shared operation can do, said once. -/

namespace Sys2Proof.Machine

/-! ## Fields of composed words -/

@[simp] theorem getElem_tabulated {α : Type} {n : Nat} (f : Fin n → α) (i : Fin n) :
    (Vector.ofFn f)[i] = f i := by simp

/-! ## Completion (60_exceptions.md R903) -/

theorem completePrimitive_eq (v : V4) (s : State) :
    completePrimitive v s =
      .next { s with
        vr := v, diag := Diag.zero, status := ⟨false, true, s.status.errcode⟩ } := rfl

theorem completeDecode_eq (p : Vector Word 16) (s : State) :
    completeDecode p s =
      .next { s with
        pixOut := p, diag := Diag.zero, status := ⟨false, true, s.status.errcode⟩ } := rfl

theorem completeEncode_eq (b : Block16) (d : Diag) (s : State) :
    completeEncode b d s =
      .next { s with
        blkOut := b, diag := d, status := ⟨false, true, s.status.errcode⟩ } := rfl

/-! ## Issue (60_exceptions.md R901, R902) -/

/-- A command write is refused while busy, refused as no command, or accepted. -/
theorem issue_cases (w : Word) (s : State) :
    (s.status.busy = true ∧ issue w s = raiseCommandError errBusy s) ∨
    (s.status.busy = false ∧ ∃ err, decodeWord w = .error err ∧
      issue w s = raiseCommandError (errcodeOf err) s) ∨
    (s.status.busy = false ∧ ∃ i, decodeWord w = .ok i ∧ issue w s = accept w s) := by
  unfold issue
  cases hb : s.status.busy
  · cases hd : decodeWord w with
    | error err => exact .inr (.inl ⟨rfl, err, rfl, by simp⟩)
    | ok i => exact .inr (.inr ⟨rfl, i, rfl, by simp⟩)
  · exact .inl ⟨rfl, by simp⟩

/-! ## Host accesses (20_memory.md R201 to R206) -/

/-- What a host read can do: only the data returned, and the count of free values, change. -/
theorem hostRead_cases {off size : Nat} {s t : State} (h : hostRead off size s = .next t) :
    WellFormed.access off size = true ∧
    ((s.status.busy = true ∧ openWhileBusy (regAt off) = true ∧
        t = setFreeReads (s.freeReads + 1) (setReadData (Config.busyRead s.freeReads) s)) ∨
     ((s.status.busy && openWhileBusy (regAt off)) = false ∧
        t = setReadData (readReg s (regAt off)) s)) := by
  unfold hostRead at h
  split at h
  · next hw =>
    refine ⟨hw, ?_⟩
    split at h
    · next hb =>
      simp only [Bool.and_eq_true] at hb
      cases h
      exact .inl ⟨hb.1, hb.2, rfl⟩
    · next hb =>
      cases h
      exact .inr ⟨by simpa using hb, rfl⟩
  · cases h

/-- What a host write can do: issue a command, or write one register. -/
theorem hostWrite_cases {off size : Nat} {v : Word} {s t : State}
    (h : hostWrite off size v s = .next t) :
    WellFormed.access off size = true ∧
    ((regAt off = .cmd ∧ t = issue v s) ∨ (regAt off ≠ .cmd ∧ t = writeReg v s (regAt off))) := by
  unfold hostWrite at h
  split at h
  · next hw =>
    refine ⟨hw, ?_⟩
    split at h
    · next hr => cases h; exact .inl ⟨hr, rfl⟩
    · next hr => cases h; exact .inr ⟨hr, rfl⟩
  · cases h

theorem hostRead_defined {off size : Nat} {s : State} (h : WellFormed.access off size = true) :
    ∃ t, hostRead off size s = .next t := by
  unfold hostRead
  simp only [h, if_true]
  split <;> exact ⟨_, rfl⟩

theorem hostWrite_defined {off size : Nat} {v : Word} {s : State}
    (h : WellFormed.access off size = true) : ∃ t, hostWrite off size v s = .next t := by
  unfold hostWrite
  simp only [h, if_true]
  split <;> exact ⟨_, rfl⟩

end Sys2Proof.Machine
end

