-- ==== Sys2Proof/Laws/Exec.lean ====
section
/-! SUPPORT. What a complete step and a step can do, said once: every later proof about all commands
cites `exec_cases` and every one about all steps `step_cases`, and unfolds neither. -/

namespace Sys2Proof.Machine

/-- The four shapes of a complete step (60_exceptions.md R903): NOP, a primitive, a decode, an
encode, by the output each writes. -/
theorem exec_cases (i : Instr) (s : State) :
    (i = .nop ∧ exec i s = .next (finish s)) ∨
    (∃ v, exec i s = completePrimitive v s) ∨
    (∃ p, exec i s = completeDecode p s) ∨
    (∃ b d n, exec i s = completeEncode b d (setFreeTies n s)) := by
  cases i with
  | nop => exact .inl ⟨rfl, rfl⟩
  | encDxt1 cf wa a1 => exact .inr (.inr (.inr ⟨_, _, _, rfl⟩))
  | encDxt3 cf wa => exact .inr (.inr (.inr ⟨_, _, _, rfl⟩))
  | encDxt5 cf wa => exact .inr (.inr (.inr ⟨_, _, _, rfl⟩))
  | encAlphaExplicit => exact .inr (.inr (.inr ⟨_, _, s.freeTies, rfl⟩))
  | encAlphaInterp => exact .inr (.inr (.inr ⟨_, _, s.freeTies, rfl⟩))
  | decDxt1 => exact .inr (.inr (.inl ⟨_, rfl⟩))
  | decDxt3 => exact .inr (.inr (.inl ⟨_, rfl⟩))
  | decDxt5 => exact .inr (.inr (.inl ⟨_, rfl⟩))
  | decAlphaExplicit => exact .inr (.inr (.inl ⟨_, rfl⟩))
  | decAlphaInterp => exact .inr (.inr (.inl ⟨_, rfl⟩))
  | decColor4 => exact .inr (.inr (.inl ⟨_, rfl⟩))
  | vadd4 => exact .inr (.inl ⟨_, rfl⟩)
  | vsub4 => exact .inr (.inl ⟨_, rfl⟩)
  | vmul4 => exact .inr (.inl ⟨_, rfl⟩)
  | vmadd4 => exact .inr (.inl ⟨_, rfl⟩)
  | vnmsub4 => exact .inr (.inl ⟨_, rfl⟩)
  | vclamp4 => exact .inr (.inl ⟨_, rfl⟩)
  | vtrunc4 => exact .inr (.inl ⟨_, rfl⟩)
  | vrecip4 => exact .inr (.inl ⟨_, rfl⟩)
  | vadd3 => exact .inr (.inl ⟨_, rfl⟩)
  | vsub3 => exact .inr (.inl ⟨_, rfl⟩)
  | vmul3 => exact .inr (.inl ⟨_, rfl⟩)
  | vmadd3 => exact .inr (.inl ⟨_, rfl⟩)
  | vnmsub3 => exact .inr (.inl ⟨_, rfl⟩)
  | vclamp3 => exact .inr (.inl ⟨_, rfl⟩)
  | vtrunc3 => exact .inr (.inl ⟨_, rfl⟩)
  | vrecip3 => exact .inr (.inl ⟨_, rfl⟩)
  | vdot3 => exact .inr (.inl ⟨_, rfl⟩)
  | precip => exact .inr (.inl ⟨_, rfl⟩)

/-- What the engine can do: nothing while idle, else the complete step of the latched command. -/
theorem engineStep_cases {s t : State} (h : engineStep s = .next t) :
    (s.status.busy = false ∧ t = s) ∨
    (s.status.busy = true ∧ ∃ i, decodeWord s.latch.cmd = .ok i ∧ exec i s = .next t) := by
  unfold engineStep at h
  split at h
  · next hb =>
    split at h
    · next i hi => exact .inr ⟨hb, i, hi, h⟩
    · cases h
  · next hb => cases h; exact .inl ⟨by simpa using hb, rfl⟩

/-- What a step can do, by the event it takes. -/
theorem step_cases {s t : State} (h : step s = .next t) :
    (s.inputs = [] ∧ engineStep s = .next t) ∨
    (∃ rest, s.inputs = .complete :: rest ∧ engineStep (setInputs rest s) = .next t) ∨
    (∃ off size rest, s.inputs = .read off size :: rest ∧
      hostRead off size (setInputs rest s) = .next t) ∨
    (∃ off size v rest, s.inputs = .write off size v :: rest ∧
      hostWrite off size v (setInputs rest s) = .next t) ∨
    (∃ rest, s.inputs = .reset :: rest ∧ t = platformReset (setInputs rest s)) := by
  unfold step at h
  split at h
  · next hi => exact .inl ⟨hi, h⟩
  · next rest hi => exact .inr (.inl ⟨rest, hi, h⟩)
  · next off size rest hi => exact .inr (.inr (.inl ⟨off, size, rest, hi, h⟩))
  · next off size v rest hi => exact .inr (.inr (.inr (.inl ⟨off, size, v, rest, hi, h⟩)))
  · next rest hi => cases h; exact .inr (.inr (.inr (.inr ⟨rest, hi, rfl⟩)))

end Sys2Proof.Machine
end

