-- ==== Sys2Proof/Laws/Float.lean ====
section
/-! SUPPORT. Patterns, signs and classes of the scalar operations: what packing and rounding give, and
what changing the sign does (00_scope.md R9, 40_vector_primitives.md R409). -/

namespace Sys2Proof.Machine

theorem fmag_lt (x : F32) : fmag x < 2 ^ 31 := Nat.mod_lt _ (by decide)

theorem binary32_inf : binary32.inf = 0x7F800000 := by decide

/-! ## Packing -/

theorem fpack_toNat (neg : Bool) {m : Nat} (h : m < 2 ^ 31) :
    (fpack neg m).toNat = (if neg then 2 ^ 31 + m else m) := by
  unfold fpack
  rw [BitVec.toNat_ofNat, Nat.mod_eq_of_lt]
  split <;> omega

theorem fmag_fpack (neg : Bool) {m : Nat} (h : m < 2 ^ 31) : fmag (fpack neg m) = m := by
  unfold fmag
  rw [fpack_toNat neg h]
  split <;> omega

theorem fsign_fpack (neg : Bool) {m : Nat} (h : m < 2 ^ 31) : fsign (fpack neg m) = neg := by
  unfold fsign
  rw [fpack_toNat neg h]
  cases neg
  · simpa using h
  · simp

/-- A pattern is its sign and its magnitude. -/
theorem fpack_fsign_fmag (x : F32) : fpack (fsign x) (fmag x) = x := by
  apply BitVec.eq_of_toNat_eq
  rw [fpack_toNat _ (fmag_lt x)]
  have := x.isLt
  unfold fsign fmag
  simp only [decide_eq_true_eq]
  split <;> omega

/-! ## Rounding -/

theorem roundMag_le_inf (f : FloatFormat) (num den : Nat) : roundMag f num den ≤ f.inf :=
  Nat.min_le_right _ _

theorem roundMag_lt (num den : Nat) : roundMag binary32 num den < 2 ^ 31 :=
  Nat.lt_of_le_of_lt (roundMag_le_inf _ _ _) (by decide)

theorem fmag_fround (neg : Bool) (num den : Nat) :
    fmag (fround neg num den) = roundMag binary32 num den := fmag_fpack neg (roundMag_lt _ _)

theorem fsign_fround (neg : Bool) (num den : Nat) : fsign (fround neg num den) = neg :=
  fsign_fpack neg (roundMag_lt _ _)

/-- A rounded result is no NaN. -/
@[simp] theorem isNaN_fround (neg : Bool) (num den : Nat) : isNaN (fround neg num den) = false := by
  simpa [isNaN, fmag_fround] using roundMag_le_inf binary32 num den

@[simp] theorem isNaN_froundSum (n : Bool) (z : Int) (den : Nat) : isNaN (froundSum n z den) = false := by
  unfold froundSum
  split
  · cases n <;> decide
  · simp

@[simp] theorem isNaN_finf (neg : Bool) : isNaN (finf neg) = false := by cases neg <;> decide

/-! ## The other sign -/

@[simp] theorem fmag_fneg (x : F32) : fmag (fneg x) = fmag x := by
  have h := x.isLt
  unfold fneg fmag
  rw [BitVec.toNat_xor, ← Nat.and_two_pow_sub_one_eq_mod, ← Nat.and_two_pow_sub_one_eq_mod,
    Nat.and_xor_distrib_right]
  simp

@[simp] theorem fsign_fneg (x : F32) : fsign (fneg x) = !fsign x := by
  have key : ∀ y : F32, fsign y = y.msb := fun y => by
    rw [BitVec.msb_eq_decide]; rfl
  rw [key, key, fneg, BitVec.msb_xor]
  have : (0x80000000 : F32).msb = true := by decide
  rw [this, Bool.xor_true]

@[simp] theorem isNaN_fneg (x : F32) : isNaN (fneg x) = isNaN x := by simp [isNaN]

@[simp] theorem isInf_fneg (x : F32) : isInf (fneg x) = isInf x := by simp [isInf]

@[simp] theorem isZero_fneg (x : F32) : isZero (fneg x) = isZero x := by simp [isZero]

@[simp] theorem fvalue_fneg (x : F32) : fvalue (fneg x) = -fvalue x := by
  cases h : fsign x <;> simp [fvalue, funits, h]

end Sys2Proof.Machine
end

