-- ==== Sys2Proof/Laws/PerInstr.lean ====
section
/-! SUPPORT. Facts about every command as syntax, one lemma per constructor: its encoded word has its
opcode in bits 7:0 and nothing but its own flags in the bits its mask leaves free (30_encoding.md
R300 to R302). -/

namespace Sys2Proof.Laws.EncodedWord

def Statement (i : Instr) : Prop :=
  opcField (encode i) = opcodeOf i ∧ encode i &&& maskOf i = (opcodeOf i).setWidth 32

theorem nop : Statement .nop := by unfold Statement; decide
theorem encDxt1 (cf wa a1 : Bool) : Statement (.encDxt1 cf wa a1) := by
  unfold Statement; revert cf wa a1; decide
theorem encDxt3 (cf wa : Bool) : Statement (.encDxt3 cf wa) := by
  unfold Statement; revert cf wa; decide
theorem encDxt5 (cf wa : Bool) : Statement (.encDxt5 cf wa) := by
  unfold Statement; revert cf wa; decide
theorem encAlphaExplicit : Statement .encAlphaExplicit := by unfold Statement; decide
theorem encAlphaInterp : Statement .encAlphaInterp := by unfold Statement; decide
theorem decDxt1 : Statement .decDxt1 := by unfold Statement; decide
theorem decDxt3 : Statement .decDxt3 := by unfold Statement; decide
theorem decDxt5 : Statement .decDxt5 := by unfold Statement; decide
theorem decAlphaExplicit : Statement .decAlphaExplicit := by unfold Statement; decide
theorem decAlphaInterp : Statement .decAlphaInterp := by unfold Statement; decide
theorem decColor4 : Statement .decColor4 := by unfold Statement; decide
theorem vadd4 : Statement .vadd4 := by unfold Statement; decide
theorem vsub4 : Statement .vsub4 := by unfold Statement; decide
theorem vmul4 : Statement .vmul4 := by unfold Statement; decide
theorem vmadd4 : Statement .vmadd4 := by unfold Statement; decide
theorem vnmsub4 : Statement .vnmsub4 := by unfold Statement; decide
theorem vclamp4 : Statement .vclamp4 := by unfold Statement; decide
theorem vtrunc4 : Statement .vtrunc4 := by unfold Statement; decide
theorem vrecip4 : Statement .vrecip4 := by unfold Statement; decide
theorem vadd3 : Statement .vadd3 := by unfold Statement; decide
theorem vsub3 : Statement .vsub3 := by unfold Statement; decide
theorem vmul3 : Statement .vmul3 := by unfold Statement; decide
theorem vmadd3 : Statement .vmadd3 := by unfold Statement; decide
theorem vnmsub3 : Statement .vnmsub3 := by unfold Statement; decide
theorem vclamp3 : Statement .vclamp3 := by unfold Statement; decide
theorem vtrunc3 : Statement .vtrunc3 := by unfold Statement; decide
theorem vrecip3 : Statement .vrecip3 := by unfold Statement; decide
theorem vdot3 : Statement .vdot3 := by unfold Statement; decide
theorem precip : Statement .precip := by unfold Statement; decide

end Sys2Proof.Laws.EncodedWord
end

