-- ==== Sys2Proof/Machine/HostMacros.lean ====
section
/-! DEFINITION. The host's pseudo-operations (30_encoding.md R308) as lists of events, and the assembly
spelling of a command (R307). They are the host's, no commands of the engine. -/

namespace Sys2Proof.Machine

/-- `LOADPIX p0..p15` (R308). -/
def loadPix (p : Vector Word 16) : List Event :=
  slots.map fun i => .write (0x040 + 4 * i.val) 4 p[i]

/-- `LOADBLK b0..b15` (R308). -/
def loadBlk (b : Block16) : List Event :=
  ([0, 1, 2, 3] : List (Fin 4)).map fun m => .write (0x080 + 4 * m.val) 4 (bufferWord b m)

/-- `RUN c` (R308): the command, `polls` reads of STATUS that still see BUSY, the engine's complete
step at the point where it falls, and the read of STATUS that sees BUSY = 0. -/
def runMacro (polls : Nat) (c : Word) : List Event :=
  .write 0x000 4 c :: (List.replicate polls (.read 0x004 4) ++ [.complete, .read 0x004 4])

/-- R307: the names of the set flags joined with dots. -/
def flagSuffix (cf wa a1 : Bool) : String :=
  (if cf then ".cf" else "") ++ (if wa then ".wa" else "") ++ (if a1 then ".a1" else "")

/-- R307: the assembly spelling of a command. -/
def assembly : Instr → String
  | .nop => "NOP"
  | .encDxt1 cf wa a1 => "ENC_DXT1" ++ flagSuffix cf wa a1
  | .encDxt3 cf wa => "ENC_DXT3" ++ flagSuffix cf wa false
  | .encDxt5 cf wa => "ENC_DXT5" ++ flagSuffix cf wa false
  | .encAlphaExplicit => "ENC_ALPHA_EXPLICIT"
  | .encAlphaInterp => "ENC_ALPHA_INTERP"
  | .decDxt1 => "DEC_DXT1"
  | .decDxt3 => "DEC_DXT3"
  | .decDxt5 => "DEC_DXT5"
  | .decAlphaExplicit => "DEC_ALPHA_EXPLICIT"
  | .decAlphaInterp => "DEC_ALPHA_INTERP"
  | .decColor4 => "DEC_COLOR4"
  | .vadd4 => "VADD4"
  | .vsub4 => "VSUB4"
  | .vmul4 => "VMUL4"
  | .vmadd4 => "VMADD4"
  | .vnmsub4 => "VNMSUB4"
  | .vclamp4 => "VCLAMP4"
  | .vtrunc4 => "VTRUNC4"
  | .vrecip4 => "VRECIP4"
  | .vadd3 => "VADD3"
  | .vsub3 => "VSUB3"
  | .vmul3 => "VMUL3"
  | .vmadd3 => "VMADD3"
  | .vnmsub3 => "VNMSUB3"
  | .vclamp3 => "VCLAMP3"
  | .vtrunc3 => "VTRUNC3"
  | .vrecip3 => "VRECIP3"
  | .vdot3 => "VDOT3"
  | .precip => "PRECIP"

end Sys2Proof.Machine
end

