-- ==== Sys2Proof/Tests/Slice0.lean ====
section
/-! SUPPORT. The model's own tests: ill-formed accesses and parameters, command words written out from
30_encoding.md R300 and R301, one step of each command on the vectors of spec/95_test_vectors.md, and
for each statement with hypotheses a state and operands that meet them. -/

namespace Sys2Proof.Tests

open Sys2Proof Sys2Proof.Machine Sys2Proof.Statements

-- One theorem after another: each kernel evaluation is short, many at once exhaust the threads.
set_option Elab.async false

/-! ## Helpers -/

/-- One step that runs the command `w`, judged by `p`; false where the step does not complete. -/
def runs (w : Nat) (s : State) (p : State → Bool) : Bool :=
  match step (s.withFetchWord 32 w) with
  | .next t => p t
  | .fault _ => false
  | .refused _ => false

/-- One step on the pending events, judged by `p`. -/
def steps (es : List Event) (s : State) (p : State → Bool) : Bool :=
  match step { s with inputs := es } with
  | .next t => p t
  | .fault _ => false
  | .refused _ => false

/-- Reset with these operands, from 32-bit patterns. -/
def operands (a b c : V4) : State := { State.reset with va := a, vb := b, vc := c }

/-- Reset with these input pixels and VALID. -/
def pixels (valid : BitVec 16) (f : Fin 16 → Word) : State :=
  { State.reset with valid := valid, pixIn := Vector.ofFn f }

/-- Reset with these block bytes, zero past the end of the list. -/
def blockIn (bytes : List Byte) : State :=
  { State.reset with blkIn := Vector.ofFn fun k => bytes.getD k.val 0 }

/-- Reset with a command in progress. -/
def busyWith (w : Word) : State := accept w State.reset

/-- The four words of BLK_OUT. -/
def outWords (t : State) : List Word :=
  [bufferWord t.blkOut 0, bufferWord t.blkOut 1, bufferWord t.blkOut 2, bufferWord t.blkOut 3]

/-- PIX_OUT of slots 0 to 3. -/
def outPixels (t : State) : List Word := t.pixOut.toList.take 4

def zero4 : V4 := ⟨0, 0, 0, 0⟩

/-! ## WellFormed refuses ill-formed terms (20_memory.md R201, 00_scope.md R6) -/

theorem test_access_byte_width_refused : WellFormed.access 0x040 1 = false := by decide
theorem test_access_misaligned_refused : WellFormed.access 0x042 4 = false := by decide
theorem test_access_beyond_window_refused : WellFormed.access 0x2000 4 = false := by decide
theorem test_access_last_word_allowed : WellFormed.access 0x1FFC 4 = true := by decide
theorem test_eps_zero_refused : WellFormed.recipEps 0 = false := by decide
theorem test_eps_infinite_refused : WellFormed.recipEps 0x7FF0000000000000 = false := by decide
theorem test_eps_negative_refused : WellFormed.recipEps 0xBD719799812DEA11 = false := by decide
theorem test_lut_code_too_large_refused :
    WellFormed.lut 32 (Vector.replicate 256 (row 32 0 0 0 0 0)) = false := by decide +kernel
theorem test_params_eps_refused :
    WellFormed.params { defaultParams with recipEps := 0 } = false := by decide
theorem test_default_params_allowed : WellFormed.params defaultParams = true := by decide +kernel
theorem test_refused_access_changes_nothing :
    (match step { State.reset with inputs := [.write 0x042 4 1] } with
      | .refused .undefinedAccess => true | _ => false) = true := by decide

/-! ## Command words, byte by byte (30_encoding.md R300, R301, R306) -/

theorem test_decode_nop : decodeBytes [0x00, 0x00, 0x00, 0x00] = .ok .nop := by decide
theorem test_decode_enc_dxt1 :
    decodeBytes [0x01, 0x00, 0x00, 0x00] = .ok (.encDxt1 false false false) ∧
    decodeBytes [0x01, 0x01, 0x00, 0x00] = .ok (.encDxt1 true false false) ∧
    decodeBytes [0x01, 0x02, 0x00, 0x00] = .ok (.encDxt1 false true false) ∧
    decodeBytes [0x01, 0x04, 0x00, 0x00] = .ok (.encDxt1 false false true) := by decide
theorem test_decode_enc_dxt3 :
    decodeBytes [0x02, 0x01, 0x00, 0x00] = .ok (.encDxt3 true false) ∧
    decodeBytes [0x02, 0x02, 0x00, 0x00] = .ok (.encDxt3 false true) := by decide
theorem test_decode_enc_dxt5 :
    decodeBytes [0x03, 0x01, 0x00, 0x00] = .ok (.encDxt5 true false) ∧
    decodeBytes [0x03, 0x02, 0x00, 0x00] = .ok (.encDxt5 false true) := by decide
theorem test_decode_alpha_encodes :
    decodeBytes [0x04, 0x00, 0x00, 0x00] = .ok .encAlphaExplicit ∧
    decodeBytes [0x05, 0x00, 0x00, 0x00] = .ok .encAlphaInterp := by decide
theorem test_decode_decodes :
    decodeBytes [0x08, 0x00, 0x00, 0x00] = .ok .decDxt1 ∧
    decodeBytes [0x09, 0x00, 0x00, 0x00] = .ok .decDxt3 ∧
    decodeBytes [0x0A, 0x00, 0x00, 0x00] = .ok .decDxt5 ∧
    decodeBytes [0x0B, 0x00, 0x00, 0x00] = .ok .decAlphaExplicit ∧
    decodeBytes [0x0C, 0x00, 0x00, 0x00] = .ok .decAlphaInterp ∧
    decodeBytes [0x0D, 0x00, 0x00, 0x00] = .ok .decColor4 := by decide
theorem test_decode_four_lane :
    decodeBytes [0x20, 0x00, 0x00, 0x00] = .ok .vadd4 ∧
    decodeBytes [0x21, 0x00, 0x00, 0x00] = .ok .vsub4 ∧
    decodeBytes [0x22, 0x00, 0x00, 0x00] = .ok .vmul4 ∧
    decodeBytes [0x23, 0x00, 0x00, 0x00] = .ok .vmadd4 ∧
    decodeBytes [0x24, 0x00, 0x00, 0x00] = .ok .vnmsub4 ∧
    decodeBytes [0x25, 0x00, 0x00, 0x00] = .ok .vclamp4 ∧
    decodeBytes [0x26, 0x00, 0x00, 0x00] = .ok .vtrunc4 ∧
    decodeBytes [0x27, 0x00, 0x00, 0x00] = .ok .vrecip4 := by decide
theorem test_decode_three_lane :
    decodeBytes [0x30, 0x00, 0x00, 0x00] = .ok .vadd3 ∧
    decodeBytes [0x31, 0x00, 0x00, 0x00] = .ok .vsub3 ∧
    decodeBytes [0x32, 0x00, 0x00, 0x00] = .ok .vmul3 ∧
    decodeBytes [0x33, 0x00, 0x00, 0x00] = .ok .vmadd3 ∧
    decodeBytes [0x34, 0x00, 0x00, 0x00] = .ok .vnmsub3 ∧
    decodeBytes [0x35, 0x00, 0x00, 0x00] = .ok .vclamp3 ∧
    decodeBytes [0x36, 0x00, 0x00, 0x00] = .ok .vtrunc3 ∧
    decodeBytes [0x37, 0x00, 0x00, 0x00] = .ok .vrecip3 ∧
    decodeBytes [0x38, 0x00, 0x00, 0x00] = .ok .vdot3 ∧
    decodeBytes [0x39, 0x00, 0x00, 0x00] = .ok .precip := by decide
theorem test_table_word_keeps_flags :
    decodeTableWord 32 0x00000701 = some (.encDxt1 true true true) := by decide

/-- L2.11 and 30_encoding.md R303: words with a bit their opcode does not allow. -/
theorem test_reserved_bits_refused :
    decodeBytes [0x03, 0x04, 0x00, 0x00] = .error (.notCommand .reservedField) ∧
    decodeBytes [0x00, 0x01, 0x00, 0x00] = .error (.notCommand .reservedField) ∧
    decodeBytes [0x20, 0x01, 0x00, 0x00] = .error (.notCommand .reservedField) ∧
    decodeBytes [0x01, 0x08, 0x00, 0x00] = .error (.notCommand .reservedField) ∧
    decodeBytes [0x08, 0x00, 0x00, 0x80] = .error (.notCommand .reservedField) := by decide
/-- 30_encoding.md R304: unlisted opcodes, whatever the other bits hold. -/
theorem test_unlisted_opcodes_refused :
    decodeBytes [0x06, 0x00, 0x00, 0x00] = .error (.notCommand .illegalOpcode) ∧
    decodeBytes [0x1F, 0x00, 0x00, 0x00] = .error (.notCommand .illegalOpcode) ∧
    decodeBytes [0x28, 0x07, 0x00, 0x00] = .error (.notCommand .illegalOpcode) ∧
    decodeBytes [0x3A, 0xFF, 0xFF, 0xFF] = .error (.notCommand .illegalOpcode) ∧
    decodeBytes [0xFF, 0x00, 0x00, 0x00] = .error (.notCommand .illegalOpcode) := by decide
theorem test_wrong_length_refused :
    decodeBytes [0x01, 0x00] = .error .notOneWord := by decide

/-! ## Issue and refusal (L2.11, L2.12) -/

theorem test_illegal_opcode_status :
    steps [.write 0 4 0x06] State.reset (fun t => statusWord t.status == 0x00000102) = true := by
  decide
theorem test_reserved_field_status :
    steps [.write 0 4 0x403] State.reset (fun t => statusWord t.status == 0x00000202) = true := by
  decide
theorem test_acceptance_status :
    steps [.write 0 4 0x701] State.reset
      (fun t => statusWord t.status == 0x00000001 && t.cmd == 0x701) = true := by decide
theorem test_write_while_busy_status :
    steps [.write 0 4 0x08] (busyWith 0x01)
      (fun t => statusWord t.status == 0x00000301 && t.cmd == 0x01 && t.latch.cmd == 0x01) = true := by
  decide
theorem test_errcode_survives_completion :
    steps [.complete] { busyWith 0x00 with status := ⟨true, false, 3⟩ }
      (fun t => statusWord t.status == 0x00000302) = true := by decide
theorem test_rom_read :
    steps [.read 0x1028 4] State.reset (fun t => t.readData == 0x00030001) = true := by decide +kernel
theorem test_platform_reset_abandons_command :
    steps [.reset] { busyWith 0x20 with vr := bcast 1, valid := 0 }
      (fun t => statusWord t.status == 0 && t.vr == zero4 && t.valid == 0xFFFF && t.cmd == 0) = true := by
  decide +kernel

/-! ## Host macros (30_encoding.md R307, R308) -/

theorem test_loadblk_writes_words :
    loadBlk #v[0xFF, 0xFF, 0, 0, 0xD5, 0xFF, 0xAA, 0x02, 0, 0, 0, 0, 0, 0, 0, 0] =
      [.write 0x080 4 0x0000FFFF, .write 0x084 4 0x02AAFFD5, .write 0x088 4 0, .write 0x08C 4 0] := by
  decide +kernel
theorem test_assembly_flags : assembly (.encDxt1 true true true) = "ENC_DXT1.cf.wa.a1" := by decide

/-! ## Primitive commands (L2.1) -/

theorem test_vadd4 : runs 0x20
    (operands ⟨0x3DCCCCCD, 0x3F800000, 0x7F800000, 0x80000000⟩
      ⟨0x3E4CCCCD, 0x40000000, 0xFF800000, 0x00000000⟩ zero4)
    (fun t => t.vr == ⟨0x3E99999A, 0x40400000, 0x7FC00000, 0x00000000⟩) = true := by decide +kernel
theorem test_vsub4 : runs 0x21
    (operands ⟨0x3DCCCCCD, 0x3F800000, 0x7F800000, 0x00000000⟩
      ⟨0x3E99999A, 0x40000000, 0x7F800000, 0x00000000⟩ zero4)
    (fun t => t.vr == ⟨0xBE4CCCCE, 0xBF800000, 0x7FC00000, 0x00000000⟩) = true := by decide +kernel
theorem test_vmul4 : runs 0x22
    (operands ⟨0x40400000, 0x80000000, 0x7F800000, 0x00800000⟩
      ⟨0x3F000000, 0x40A00000, 0x00000000, 0x3F000000⟩ zero4)
    (fun t => t.vr == ⟨0x3FC00000, 0x80000000, 0x7FC00000, 0x00400000⟩) = true := by decide +kernel

/-- The operands A and B of R423. -/
def maddOperands (c : V4) : State :=
  operands ⟨0x3F800001, 0x40000000, 0x3F800000, 0x3EAAAAAB⟩
    ⟨0x3F800001, 0x40400000, 0xBF800000, 0x40400000⟩ c

theorem test_vmadd4 : runs 0x23 (maddOperands ⟨0xBF800002, 0x3F800000, 0x3F800000, 0x00000000⟩)
    (fun t => t.vr == ⟨0x00000000, 0x40E00000, 0x00000000, 0x3F800000⟩) = true := by decide +kernel
theorem test_vmadd4_fused : runs 0x23
    { maddOperands ⟨0xBF800002, 0x3F800000, 0x3F800000, 0x00000000⟩ with
      params := { defaultParams with maddFused := true } }
    (fun t => t.vr == ⟨0x28800000, 0x40E00000, 0x00000000, 0x3F800000⟩) = true := by decide +kernel
theorem test_vnmsub4 : runs 0x24 (maddOperands ⟨0x3F800002, 0x41200000, 0x00000000, 0x3F800000⟩)
    (fun t => t.vr == ⟨0x00000000, 0x40800000, 0x3F800000, 0x00000000⟩) = true := by decide +kernel
theorem test_vnmsub4_fused : runs 0x24
    { maddOperands ⟨0x3F800002, 0x41200000, 0x00000000, 0x3F800000⟩ with
      params := { defaultParams with maddFused := true } }
    (fun t => t.vr.x == 0xA8800000) = true := by decide +kernel
theorem test_vclamp4 : runs 0x25
    (operands ⟨0xBF000000, 0x3FC00000, 0x3E800000, 0x7FC00000⟩ zero4 zero4)
    (fun t => t.vr == ⟨0x00000000, 0x3F800000, 0x3E800000, 0x7FC00000⟩) = true := by decide +kernel
theorem test_vclamp4_signs : runs 0x25
    (operands ⟨0x80000000, 0x7F800000, 0xFF800000, 0x3F800000⟩ zero4 zero4)
    (fun t => t.vr == ⟨0x80000000, 0x3F800000, 0x00000000, 0x3F800000⟩) = true := by decide +kernel
theorem test_vtrunc4 : runs 0x26
    (operands ⟨0x402CCCCD, 0xC02CCCCD, 0xBF000000, 0x3F000000⟩ zero4 zero4)
    (fun t => t.vr == ⟨0x40000000, 0xC0000000, 0x80000000, 0x00000000⟩) = true := by decide +kernel
theorem test_vtrunc4_large : runs 0x26
    (operands ⟨0x7F800000, 0x80000000, 0x4AFFFFFF, 0xBF800000⟩ zero4 zero4)
    (fun t => t.vr == ⟨0x7F800000, 0x80000000, 0x4AFFFFFE, 0xBF800000⟩) = true := by decide +kernel
theorem test_vrecip4 : runs 0x27
    (operands ⟨0x00000000, 0x80000000, 0x40000000, 0x40400000⟩ zero4 zero4)
    (fun t => t.vr == ⟨0x7F800000, 0xFF800000, 0x3F000000, 0x3EAAAAAB⟩) = true := by decide +kernel
theorem test_vrecip4_extremes : runs 0x27
    (operands ⟨0x7F800000, 0x00000001, 0x7F7FFFFF, 0xC0800000⟩ zero4 zero4)
    (fun t => t.vr == ⟨0x00000000, 0x7F800000, 0x00200000, 0xBE800000⟩) = true := by decide +kernel
theorem test_vadd3 : runs 0x30
    (operands ⟨0x3DCCCCCD, 0x3F800000, 0x7F800000, 0x3F800000⟩
      ⟨0x3E4CCCCD, 0x40000000, 0xFF800000, 0x3F800000⟩ zero4)
    (fun t => t.vr == ⟨0x3E99999A, 0x40400000, 0x7FC00000, 0x00000000⟩) = true := by decide +kernel
theorem test_vsub3 : runs 0x31
    (operands ⟨0x3DCCCCCD, 0x3F800000, 0x7F800000, 0x3F800000⟩
      ⟨0x3E99999A, 0x40000000, 0x7F800000, 0x00000000⟩ zero4)
    (fun t => t.vr == ⟨0xBE4CCCCE, 0xBF800000, 0x7FC00000, 0x00000000⟩) = true := by decide +kernel
theorem test_vmul3 : runs 0x32
    (operands ⟨0x40400000, 0x80000000, 0x7F800000, 0x3F800000⟩
      ⟨0x3F000000, 0x40A00000, 0x00000000, 0x3F800000⟩ zero4)
    (fun t => t.vr == ⟨0x3FC00000, 0x80000000, 0x7FC00000, 0x00000000⟩) = true := by decide +kernel
theorem test_vmadd3 : runs 0x33 (maddOperands ⟨0xBF800002, 0x3F800000, 0x3F800000, 0x00000000⟩)
    (fun t => t.vr == ⟨0x00000000, 0x40E00000, 0x00000000, 0x00000000⟩) = true := by decide +kernel
theorem test_vnmsub3 : runs 0x34 (maddOperands ⟨0x3F800002, 0x41200000, 0x00000000, 0x40000000⟩)
    (fun t => t.vr == ⟨0x00000000, 0x40800000, 0x3F800000, 0x00000000⟩) = true := by decide +kernel
theorem test_vclamp3 : runs 0x35
    (operands ⟨0xBF000000, 0x3FC00000, 0x3E800000, 0x40E00000⟩ zero4 zero4)
    (fun t => t.vr == ⟨0x00000000, 0x3F800000, 0x3E800000, 0x00000000⟩) = true := by decide +kernel
theorem test_vtrunc3 : runs 0x36
    (operands ⟨0x402CCCCD, 0xC02CCCCD, 0xBF000000, 0x40000000⟩ zero4 zero4)
    (fun t => t.vr == ⟨0x40000000, 0xC0000000, 0x80000000, 0x00000000⟩) = true := by decide +kernel
theorem test_vrecip3 : runs 0x37
    (operands ⟨0x00000000, 0x80000000, 0x40000000, 0x00000000⟩ zero4 zero4)
    (fun t => t.vr == ⟨0x7F800000, 0xFF800000, 0x3F000000, 0x00000000⟩) = true := by decide +kernel
theorem test_vdot3_rounds_each_sum : runs 0x38
    (operands ⟨0x3DCCCCCD, 0x3DCCCCCD, 0x3DCCCCCD, 0x3F800000⟩
      ⟨0x3DCCCCCD, 0x3DCCCCCD, 0x3DCCCCCD, 0x3F800000⟩ zero4)
    (fun t => t.vr == ⟨0x3CF5C290, 0, 0, 0⟩) = true := by decide +kernel
theorem test_vdot3_tie : runs 0x38 (maddOperands zero4)
    (fun t => t.vr == ⟨0x40C00000, 0, 0, 0⟩) = true := by decide +kernel
theorem test_precip_floor : runs 0x39 (operands ⟨0xAB8CBCCC, 0, 0, 0⟩ zero4 zero4)
    (fun t => t.vr == ⟨0xD368D4A5, 0, 0, 0⟩) = true := by decide +kernel
theorem test_precip_inexact : runs 0x39 (operands ⟨0x3F800001, 0, 0, 0⟩ zero4 zero4)
    (fun t => t.vr == ⟨0x3F7FFFFE, 0, 0, 0⟩) = true := by decide +kernel

/-! ## Decode commands (L2.9) -/

theorem test_dec_dxt1_thirds : runs 0x08 (blockIn [0x00, 0xF8, 0x1F, 0x00, 0xE4])
    (fun t => outPixels t == [0xFF0000FF, 0xFFFF0000, 0xFF5500AA, 0xFFAA0055]) = true := by
  decide +kernel
theorem test_dec_dxt1_halves : runs 0x08 (blockIn [0x1F, 0x00, 0x00, 0xF8, 0xE4])
    (fun t => outPixels t == [0xFFFF0000, 0xFF0000FF, 0xFF7F007F, 0x00000000]) = true := by
  decide +kernel
theorem test_dec_dxt3 : runs 0x09
    (blockIn [0x10, 0x32, 0x54, 0x76, 0x98, 0xBA, 0xDC, 0xFE, 0x00, 0xF8, 0x1F, 0x00, 0xE4])
    (fun t => outPixels t == [0x000000FF, 0x11FF0000, 0x225500AA, 0x33AA0055] &&
      t.pixOut[15] == 0xFF0000FF) = true := by decide +kernel
theorem test_dec_dxt5 : runs 0x0A
    (blockIn [0xFF, 0x00, 0x88, 0xC6, 0xFA, 0, 0, 0, 0x1F, 0x00, 0x00, 0xF8, 0xE4])
    (fun t => outPixels t == [0xFFFF0000, 0x000000FF, 0xDAAA0055, 0xB65500AA]) = true := by
  decide +kernel
theorem test_dec_alpha_explicit : runs 0x0B
    (blockIn [0x10, 0x32, 0x54, 0x76, 0x98, 0xBA, 0xDC, 0xFE])
    (fun t => outPixels t == [0x00000000, 0x11000000, 0x22000000, 0x33000000] &&
      t.pixOut[15] == 0xFF000000) = true := by decide +kernel
theorem test_dec_alpha_interp : runs 0x0C (blockIn [0x00, 0xFF, 0x88, 0xC6, 0xFA])
    (fun t => (t.pixOut.toList.take 8).map (fun p => p.toNat / 2 ^ 24) ==
      [0, 255, 51, 102, 153, 204, 0, 255]) = true := by decide +kernel
theorem test_dec_color4 : runs 0x0D (blockIn [0x1F, 0x00, 0x00, 0xF8, 0xE4])
    (fun t => outPixels t == [0xFFFF0000, 0xFF0000FF, 0xFFAA0055, 0xFF5500AA]) = true := by
  decide +kernel

/-! ## Encode commands and NOP (L2.2, L2.4, L2.5, L2.7, L2.8, L2.10) -/

/-- Even slots black, odd slots white (42_color_set_builder.md R512). -/
def checker : State := pixels 0xFFFF fun s => if s.val % 2 = 0 then 0xFF000000 else 0xFFFFFFFF

theorem test_nop : runs 0x00 { State.reset with diag := { Diag.zero with fit := 0x11 } }
    (fun t => statusWord t.status == 0x00000002 && t.diag.fit == 0x11) = true := by decide +kernel
theorem test_enc_dxt1_single_colour : runs 0x01 (pixels 0x0020 fun _ => 0xFF1EC80A)
    (fun t => outWords t == [0x0E00168B, 0xAAAAAEAA, 0, 0] && t.diag.fit == 0x00010011) = true := by
  decide +kernel
/-- The grey ramp of 48_encoder_commands.md R801: all four codes of range-fit. -/
theorem test_enc_dxt1_range_fit : runs 0x01
    (pixels 0xFFFF fun s => BitVec.ofNat 32 (0xFF000000 + 17 * s.val * 0x010101))
    (fun t => outWords t == [0x0000FFFF, 0x02AAFFD5, 0, 0] && t.diag.fit == 0x00000102) = true := by
  decide +kernel
theorem test_enc_dxt3_cluster_fit : runs 0x102 checker
    (fun t => outWords t == [0xFFFFFFFF, 0xFFFFFFFF, 0x0000FFFF, 0x11111111] &&
      t.diag.fit == 0x00001023 && t.diag.cfErr == 0xC107C3B6 && t.diag.cfBest == 0x00010101) = true := by
  decide +kernel
theorem test_enc_dxt3_invalid_slots : runs 0x02 (pixels 0x0001 fun _ => 0xFF000000)
    (fun t => (outWords t).take 2 == [0x0000000F, 0]) = true := by decide +kernel
theorem test_enc_dxt5_edge_block : runs 0x03 (pixels 0x0033 fun _ => 0xFF3264C8)
    (fun t => outWords t == [0x9009FFFA, 0, 0xA9C2FDEF, 0xAAAAAFAF] && t.diag.scErr == 1 &&
      t.diag.aRange == 0xFFF8FFFA) = true := by decide +kernel
theorem test_enc_alpha_explicit : runs 0x04
    (pixels 0xFFFF fun s => BitVec.ofNat 32 (17 * s.val * 2 ^ 24))
    (fun t => outWords t == [0x76543210, 0xFEDCBA98, 0, 0] && t.diag == Diag.zero) = true := by
  decide +kernel
theorem test_enc_alpha_interp_seven_step : runs 0x05
    (pixels 0xFFFF fun s => BitVec.ofNat 32 ((100 + 2 * s.val) * 2 ^ 24))
    (fun t => outWords t == [0x6FC96482, 0x0126E4B7, 0, 0] &&
      t.diag == { Diag.zero with aErr5 := 40, aErr7 := 26, aSel := 1, aRange := 0x82648264 }) =
      true := by decide +kernel
theorem test_enc_alpha_interp_no_valid_slot : runs 0x05 (pixels 0x0000 fun _ => 0x80000000)
    (fun t => outWords t == [0x0000FFFA, 0, 0, 0] && t.diag.aRange == 0xFFF8FFFA) = true := by
  decide +kernel

/-- The points of the checker (42_color_set_builder.md R512). -/
def checkerPoints : List V4 := [⟨0, 0, 0, 0x403504F3⟩, ⟨fone, fone, fone, 0x403504F3⟩]

/-- The errors of the eight partitions of the checker, in visiting order (44_cluster_fit.md R617). -/
theorem test_cluster_fit_partition_errors :
    (partitions (orderedPoints checkerPoints [0, 1])).map
      (fun q => (evaluate defaultParams (orderedTotal checkerPoints [0, 1]) q).error) =
    [0xC096D974, 0x7FC00000, 0xC0F15BEE, 0xC0D33071, 0x7FC00000, 0xC107C3B6, 0xC0F15BEE, 0xC096D976] := by
  decide +kernel

/-! ## Witnesses: for each statement with hypotheses, inputs that meet them -/

/-- With the default parameters only the other parts of the invariant are left to check. -/
theorem consistent_of_default_params {s : State} (hp : s.params = defaultParams)
    (h : (Safety.statusOk s.status && Safety.commandOk s && Safety.diagOk s.diag) = true) :
    Safety.consistent s = true := by
  unfold Safety.consistent
  rw [h, hp, test_default_params_allowed, Bool.and_self]

/-- A step that completes, as a proposition. -/
def completes (es : List Event) (s : State) : Prop := ∃ t, step { s with inputs := es } = .next t

theorem test_witness_ResetLeavesTheStatedValues :
    0x000 % 4 = 0 ∧ 0x00C % 4 = 0 ∧ 0xFFC % 4 = 0 ∧ 0xFFC < 0x1000 := by decide
theorem test_witness_EveryStepKeepsConsistency :
    Safety.consistent { State.reset with inputs := [.write 0 4 1] } = true ∧
    completes [.write 0 4 1] State.reset :=
  ⟨consistent_of_default_params rfl (by decide), _, rfl⟩
theorem test_witness_DefinedEventsNeverStopTheMachine :
    Safety.consistent { busyWith 1 with inputs := [.write 0x1FFC 4 7, .complete, .reset] } = true ∧
    Safety.inputsOk { busyWith 1 with inputs := [.write 0x1FFC 4 7, .complete, .reset] } = true :=
  ⟨consistent_of_default_params rfl (by decide), by decide⟩
theorem test_witness_PlatformResetRestoresEveryRegister :
    { busyWith 1 with inputs := [.reset, .complete] }.inputs = .reset :: [.complete] := rfl
theorem test_witness_OneStepRunsTheLatchedCommand :
    (busyWith 0x20).status.busy = true ∧ decodeWord (busyWith 0x20).latch.cmd = .ok .vadd4 ∧
    (busyWith 0x20).inputs = [] ∧
    { busyWith 0x20 with inputs := [.complete, .reset] }.inputs = .complete :: [.reset] ∧
    decodeWord 0x39 = .ok .precip := by decide
theorem test_witness_AnUndisturbedCommandCompletes :
    (Safety.consistent (busyWith 0x38) = true ∧ (busyWith 0x38).inputs = [] ∧
      (busyWith 0x38).status.busy = true) ∧
    (Safety.consistent State.reset = true ∧ State.reset.inputs = [] ∧
      State.reset.status.busy = false) :=
  ⟨⟨consistent_of_default_params rfl (by decide), rfl, rfl⟩,
   consistent_of_default_params rfl (by decide), rfl, rfl⟩
theorem test_witness_MaskAndMatchDecideTheDecoder :
    (0x0000003A : Word) &&& 0xFF = 0x3A ∧ decodeWord 0x0000003A = .error .illegalOpcode ∧
    (0x00000403 : Word) &&& 0xFFFFFCFF ≠ 0x03 ∧ (0x00000303 : Word) &&& 0xFFFFFCFF = 0x03 ∧
    (0x00000303 : Word) &&& maskOf (.encDxt5 true true) =
      (opcodeOf (.encDxt5 true true)).setWidth 32 := by decide
theorem test_witness_CommandWritesFollowTheIssueRule :
    { State.reset with inputs := [.write 0x000 4 1] }.inputs = .write 0x000 4 1 :: [] ∧
    (busyWith 1).status.busy = true ∧ State.reset.status.busy = false := by decide
theorem test_witness_WriteWhileBusyIsRefusedAndLost :
    (busyWith 0).status.busy = true ∧ (∃ u, engineStep (busyWith 0) = .next u) ∧
    completes [.write 0x008 4 0] State.reset ∧
    (∀ w, [Event.write 0x008 4 0].head? ≠ some (.write 0x000 4 w)) ∧
    [Event.write 0x008 4 0].head? ≠ some .reset :=
  ⟨rfl, ⟨_, rfl⟩, ⟨_, rfl⟩, fun w => by simp, by decide⟩
theorem test_witness_OnlyIssueCompletionAndResetMoveBusy :
    steps [.write 0 4 1] State.reset (fun t => !State.reset.status.busy && t.status.busy) = true ∧
    steps [] (busyWith 0) (fun t => (busyWith 0).status.busy && !t.status.busy) = true := by
  decide +kernel
/-- Offsets at the ends of every gap the excluded ranges leave. -/
theorem test_witness_CompletionLeavesTheRestOfTheWindow :
    ∀ off ∈ [0x000, 0x003, 0x008, 0x01F, 0x020, 0x03F, 0x040, 0x0BF, 0x0C0, 0x0FF, 0x100, 0x10F, 0x110,
      0x11F, 0x120, 0x1FFF], off < 0x2000 ∧ ¬ (0x004 ≤ off ∧ off < 0x008) := by decide
theorem test_witness_ResultsDependOnTheLatchAlone :
    busyWith 0x20 ≠ { busyWith 0x20 with vr := bcast 1, valid := 0 } ∧
    (busyWith 0x20).latch = { busyWith 0x20 with vr := bcast 1, valid := 0 }.latch := by
  decide +kernel
theorem test_witness_InputWritesWhileBusyMissTheRunningCommand :
    ∀ off ∈ [0x004, 0x008, 0x040, 0x0BC, 0x1FFC], WellFormed.access off 4 = true ∧ off ≠ 0x000 := by
  decide
theorem test_witness_MultiplyAddFollowsTheFusedParameter :
    State.reset.params.maddFused = false ∧
    { State.reset with params := { defaultParams with maddFused := true } }.params.maddFused =
      true := ⟨rfl, rfl⟩
theorem test_witness_FourLaneArithmeticWritesVr :
    isNaN 0x7F7FFFFF = false ∧ isInf 0x7F7FFFFF = false := by decide +kernel
theorem test_witness_FourLaneOneOperandCommandsWriteVr :
    isNaN 0xFFFFFFFF = true ∧ fmag 0x801FFFFF < 0x00200000 ∧ fsign 0x801FFFFF = true ∧
    fmag 0x001FFFFF < 0x00200000 ∧ fsign 0x001FFFFF = false := by decide +kernel
theorem test_witness_ThreeLaneCommandsZeroLaneW :
    (Instr.vrecip4, Instr.vrecip3) ∈ [(Instr.vadd4, Instr.vadd3), (.vrecip4, .vrecip3)] := by decide
/-- 0x2B8CBCCD is the least pattern from the default epsilon on. -/
theorem test_witness_PrecipIsFlooredAtTheEpsilon :
    WellFormed.recipEps 0x3D719799812DEA11 = true ∧
    (fmag 0x2B8CBCCD < 0x7F800000 ∧
      unitsOf binary64 0x3D719799812DEA11 ≤ (fvalue 0x2B8CBCCD).natAbs * 2 ^ 925) ∧
    (fmag 0xAB8CBCCC < 0x7F800000 ∧
      (fvalue 0xAB8CBCCC).natAbs * 2 ^ 925 < unitsOf binary64 0x3D719799812DEA11) ∧
    isInf 0xFF800000 = true ∧
    isNaN 0x7FC00000 = true ∧ fmag 0x00000000 ≤ 0x2B8CBCCC ∧ fmag 0xAB8CBCCC ≤ 0x2B8CBCCC ∧
    flt 0xAB8CBCCC 0 = true ∧ flt 0x2B8CBCCC 0 = false := by decide +kernel
/-- 2^24 + 1 units lie half way between two patterns; 2^278 round to infinity. The operands of the
other clauses: 1 and 2, 1 and -1, -0 and +0, 1 and 0; the fused forms with a zero and another sum. -/
theorem test_witness_RoundingIsToNearestTiesToEven :
    (roundMag binary32 (2 ^ 24 + 1) 1 = 0x01000000 ∧ 0x01000001 < binary32.inf ∧
      (2 * (2 ^ 24 + 1) : Nat) = unitsOf binary32 0x01000000 + unitsOf binary32 0x01000001 ∧
      roundMag binary32 (2 ^ 278) 1 = binary32.inf ∧ roundMag binary64 3 2 = 2 ∧
      2 < binary64.inf) ∧
    (fmag 0x3F800000 < 0x7F800000 ∧ fmag 0xBF800000 < 0x7F800000 ∧ fmag 0x40000000 < 0x7F800000 ∧
      fmag 0 < 0x7F800000 ∧ fmag 0x80000000 < 0x7F800000 ∧ fmag 0xFF7FFFFF < 0x7F800000) ∧
    (fvalue 0x3F800000 + fvalue 0x40000000 ≠ 0 ∧ fvalue 0x3F800000 + fvalue 0xBF800000 = 0 ∧
      fvalue 0x80000000 + fvalue 0x80000000 = 0 ∧ fvalue 0x3F800000 - fvalue 0x40000000 ≠ 0 ∧
      fvalue 0x80000000 - fvalue 0 = 0 ∧ fvalue 0xBF800000 ≠ 0) ∧
    (0 < fvalue 0x40000000 ∧ 0 < binary32.inf ∧ 0 < fmag (fsqrt 0x40000000) ∧
      fmag (fsqrt 0x40000000) < 0x7F7FFFFF ∧ 0x7F7FFFFF < binary32.inf ∧ fmag 0x80000000 = 0) ∧
    (fvalue 0x3F800000 * fvalue 0x3F800000 + fvalue 0x3F800000 * 2 ^ 149 ≠ 0 ∧
      fvalue 0x3F800000 * fvalue 0x3F800000 + fvalue 0xBF800000 * 2 ^ 149 = 0 ∧
      fvalue 0x40000000 * 2 ^ 149 - fvalue 0x3F800000 * fvalue 0x3F800000 ≠ 0 ∧
      fvalue 0x3F800000 * 2 ^ 149 - fvalue 0x3F800000 * fvalue 0x3F800000 = 0) ∧
    2 ^ 24 ≤ 2 ^ 24 := by decide +kernel
theorem test_witness_ComparisonsAreByValue :
    isNaN 0xFF800000 = false ∧ isNaN 0x7F7FFFFF = false ∧ isInf 0xFF800000 = true ∧
    fmag 0xFF7FFFFF < 0x7F800000 ∧ isNaN 0x7F800001 = true := by decide +kernel
/-- An input for each premise: a NaN, infinity times zero, infinities that cancel in A*B + C and in
C - A*B; and results that are NaNs. -/
theorem test_witness_ArithmeticNansAreCanonical :
    isNaN 0x7F800001 = true ∧ (isInf 0x7F800000 = true ∧ isZero 0x80000000 = true) ∧
    (fsign 0xFF800000 ≠ productNegative 0x7F800000 0x3F800000 ∧
      fmadd true 0x7F800000 0x3F800000 0xFF800000 = 0x7FC00000) ∧
    (fsign 0x7F800000 = productNegative 0x7F800000 0x3F800000 ∧
      fnmsub false 0x7F800000 0x3F800000 0x7F800000 = 0x7FC00000) ∧
    isNaN (fadd 0x7F800000 0xFF800000) = true ∧ isNaN (fsub 0x7F800000 0x7F800000) = true ∧
    isNaN (fmul 0 0x7F800000) = true ∧ isNaN (fdiv 0 0) = true ∧
    isNaN (fdiv 0xFF800000 0x7F800000) = true ∧ isNaN (fsqrt 0xBF800000) = true ∧
    isNaN (fmadd true 0x7F800000 0 0) = true ∧ isNaN (fnmsub false 0xFFFFFFFF 0 0) = true := by
  decide +kernel
theorem test_witness_ClampResultsAreThoseListed :
    isNaN 0x7F812345 = true ∧ flt 0x80000001 0 = true ∧ flt 0x3F800000 0x3F800001 = true ∧
    isNaN 0x80000000 = false ∧ flt 0x80000000 0 = false ∧ flt 0x3F800000 0x80000000 = false := by
  decide +kernel
theorem test_witness_TruncationIsExactAndKeepsTheSign :
    fmag 0xBF000000 < 0x7F800000 ∧ fmag 0x80000000 = 0 ∧ 0x7F800000 ≤ fmag 0xFF800000 := by
  decide +kernel
theorem test_witness_HostReadsHaveNoSideEffect :
    (∀ p ∈ [(0x000, 1), (0x002, 4), (0x2000, 4)],
      ¬ (p.2 = 4 ∧ p.1 % 4 = 0 ∧ p.1 < 0x2000)) ∧ 0x1FFC % 4 = 0 ∧ 0x1FFC < 0x2000 := by decide
theorem test_witness_ReadsGiveTheCurrentRegister :
    State.reset.status.busy = false ∧ (busyWith 1).status.busy = true ∧
    ∀ off ∈ [0x000, 0x01C, 0x040, 0x0BC, 0x120, 0x1FFC], off % 4 = 0 ∧ off < 0x2000 ∧
      (off < 0x020 ∨ (0x040 ≤ off ∧ off < 0x0C0) ∨ 0x120 ≤ off) := by decide
theorem test_witness_WrittenInputsReadBack :
    ∀ off ∈ [0x008, 0x040, 0x0BC], off % 4 = 0 ∧ (off = 0x008 ∨ (0x040 ≤ off ∧ off < 0x0C0)) := by
  decide
theorem test_witness_ReadOnlyAndReservedOffsetsIgnoreWrites :
    (∀ off ∈ [0x004, 0x00C, 0x03C, 0x0C0, 0x1FFC],
      off % 4 = 0 ∧ (off = 0x004 ∨ (0x00C ≤ off ∧ off < 0x040) ∨ (0x0C0 ≤ off ∧ off < 0x2000))) ∧
    (∀ off ∈ [0x010, 0x01C, 0x120, 0xFFC],
      off % 4 = 0 ∧ ((0x010 ≤ off ∧ off < 0x020) ∨ (0x120 ≤ off ∧ off < 0x1000))) := by decide
theorem test_witness_LutWindowShowsTheTables :
    1 < 2 ∧ 255 < 256 ∧ 0x1000 + 0x800 * 1 + 8 * 255 + 4 * 1 = 0x1FFC := by decide
theorem test_witness_BusyOutputReadsDrawAFreeValue :
    (busyWith 1).status.busy = true ∧ ∀ off ∈ [0x020, 0x03C, 0x0C0, 0x11C],
      off % 4 = 0 ∧ ((0x020 ≤ off ∧ off < 0x040) ∨ (0x0C0 ≤ off ∧ off < 0x120)) := by decide
/-- Slots 0 and 15 are valid; slot 15 alone is opaque, so with A1 it alone makes a point. -/
theorem test_witness_SolidBlocksDecodeWithTheReportedError :
    let s := accept 0x01 (pixels 0x8001 fun i => if i.val = 15 then 0x80030201 else 0x7F030201)
    s.params.lut5 = lut5 ∧ s.params.lut6 = lut6 ∧
    (slotValid s.latch 0 = true ∧ slotValid s.latch 15 = true ∧
      channelNat (slotPixel s.latch 0) 3 = 127 ∧ 128 ≤ channelNat (slotPixel s.latch 15) 3) ∧
    ∀ i : Slot, slotValid s.latch i = true →
      channelNat (slotPixel s.latch i) 0 = 1 ∧ channelNat (slotPixel s.latch i) 1 = 2 ∧
        channelNat (slotPixel s.latch i) 2 = 3 :=
  ⟨rfl, rfl, by decide +kernel, by decide +kernel⟩
/-- Slots 0 and 2 of the checker share point 0, slot 1 is point 1, an invalid slot has none; the eight
slots of point 0 give it the root of 8 (42_color_set_builder.md R505). -/
theorem test_witness_MapMarksExactlyTheSlotsWithoutAPoint :
    let l := (accept 0x01 { checker with valid := 0x7FFF }).latch
    let cs := colourSet l .dxt1 false
    cs.map[0]? = some (some 0) ∧ cs.map[2]? = some (some 0) ∧ cs.map[1]? = some (some 1) ∧
    cs.map[15]? = some none ∧ 1 < cs.points.length ∧
    (weightsOf l false cs.map 0).length = 8 ∧ cs.points[0]? = some ⟨0, 0, 0, 0x403504F3⟩ ∧
    weightOf true 0x00FFFFFF = 0x3B800000 := by decide +kernel
theorem test_witness_SlotsShareAPointExactlyWhenColoursAreEqual :
    let cs := colourSet (accept 0x01 checker).latch .dxt1a true
    cs.map[1]? = some (some 1) ∧ cs.map[15]? = some (some 1) ∧ cs.map[14]? = some (some 0) := by
  decide +kernel
theorem test_witness_PartitionsAreThoseOfTheLoop :
    [bcast fone, bcast fone] ≠ [] ∧ (partitions [bcast fone, bcast fone]).length = 8 := by
  decide +kernel
theorem test_witness_OrderingIsAStableSort :
    pointOrder ⟨fone, fzero, fzero⟩ [⟨fone, 0, 0, fone⟩, vzero, ⟨fone, fone, 0, fone⟩] = [1, 0, 2] ∧
    ∀ p ∈ [⟨fone, 0, 0, fone⟩, vzero, ⟨fone, fone, 0, fone⟩],
      isNaN (dot3 (xyz p) ⟨fone, fzero, fzero⟩) = false := by decide +kernel
/-- The partition (1, 1, 1) of the checker has an error that is a number. -/
theorem test_witness_SerialPassKeepsTheFirstSmallest :
    defaultParams.cfTie = .serial ∧
    isNaN (evaluate defaultParams (orderedTotal checkerPoints [0, 1])
      ⟨1, 1, 1, ⟨0, 0, 0, 0x403504F3⟩, vzero, vzero⟩).error = false := by decide +kernel
/-- 44_cluster_fit.md R614: with no number among the errors a second pass runs, on the axis (0, 0, 0), and
the record keeps its initial values. -/
theorem test_witness_ClusterSearchRunsAtMostEightPasses :
    let r := clusterSearch defaultParams 0
      [⟨fone, 0, 0, 0x7FC00000⟩, ⟨0, 0, 0, 0x7FC00000⟩] ⟨fone, fone, fone⟩
    r.passes = 2 ∧ r.orders = [[1, 0], [0, 1]] ∧ r.best = Best.initial := by decide +kernel
theorem test_witness_AnyTieKeepsTheSerialErrorAndPass :
    { defaultParams with cfTie := .any }.cfTie = .any ∧
    (∀ c ∈ [(⟨0, 0, 1, zeroV3, zeroV3, 0x7FC00000⟩ : Candidate)],
      flt c.error Best.initial.error = false) ∧
    (∃ c ∈ [(⟨0, 0, 1, zeroV3, zeroV3, 0xBF800000⟩ : Candidate)],
      flt c.error Best.initial.error = true) := by decide +kernel
theorem test_witness_RangeFitTakesExtremesAndNearestCodes :
    [vzero, bcast fone] ≠ [] ∧
    (∀ r ∈ [vzero, bcast fone], isNaN (dot3 (xyz r) ⟨fone, fone, fone⟩) = false) ∧
    (rangeCodes zeroV3 ⟨fone, fone, fone⟩).length = 4 ∧ isNaN fone = false ∧
    ([none, some 1] : List (Option Nat))[0]? = some none ∧
    ([none, some 1] : List (Option Nat))[1]? = some (some 1) ∧
    [vzero, bcast fone][1]? = some (bcast fone) ∧
    (∀ c ∈ rangeCodes zeroV3 ⟨fone, fone, fone⟩, flt (codeDistance vzero c) cBig = true) := by
  decide +kernel
/-- The search over the two points of the checker: its best ordering holds both. -/
theorem test_witness_EncodeCommandsFollowThePipeline :
    let cs := colourSet (accept 0x0101 { checker with valid := 0x0007 }).latch .dxt1 false
    let r := clusterSearch defaultParams 0 cs.points (principalAxis defaultParams cs.points)
    cs.map[0]? = some (some 0) ∧ cs.map[15]? = some none ∧
    (∃ order, r.orders[r.best.iter]? = some order ∧ order[0]? = some 0 ∧
      order.Perm (List.range cs.points.length)) := by
  refine ⟨by decide +kernel, by decide +kernel, [0, 1], by decide +kernel, by decide, ?_⟩
  decide +kernel
theorem test_witness_EmittedColourBlocksAreInOrder : runs 0x01 (pixels 0xFFFF fun _ => 0xFF000000)
    (fun t => color0 (lowHalf t.blkOut) == color1 (lowHalf t.blkOut)) = true := by decide +kernel
theorem test_witness_ExchangedEndpointsGiveTheSameBlock :
    (List.replicate 16 (3 : BitVec 2)).length = 16 := by decide
theorem test_witness_SerializerStoresEndpointsAndIndices :
    ([none, some 0] : List (Option Nat))[0]? = some none ∧
    ([none, some 0] : List (Option Nat))[1]? = some (some 0) ∧
    ([2] : List (BitVec 2))[0]? = some 2 ∧ remapIndices [none, some 0] [2] = [3, 2] ∧
    (List.replicate 16 (2 : BitVec 2)).length = 16 := by decide
/-- The ramp of 46_alpha_codec.md R712 row 5: slot 15 stores 0, the encoder's 1, and code 1 is the
encoder's 0. With no valid slot the 5-step topology is taken. -/
theorem test_witness_AlphaRoundTripErrorIsTheReportedOne :
    runs 0x05 (pixels 0xFFFF fun s => BitVec.ofNat 32 ((100 + 2 * s.val) * 2 ^ 24)) (fun t =>
      slotValid t.latch 15 && t.diag.aSel == 1 && codeAt (lowHalf t.blkOut) 15 == 0 &&
      encoderCode true 1 < encoderCode true 0) = true ∧
    runs 0x05 (pixels 0 fun _ => 0) (fun t => !slotValid t.latch 0 && t.diag.aSel == 0) = true := by
  decide +kernel
theorem test_witness_ExplicitAlphaIsAnIdentityOnBlocks :
    (List.replicate 16 (some 255)).length = 16 ∧
    (∀ a ∈ List.replicate 16 (some 255), a.getD 0 ≤ 255) ∧
    (List.replicate 16 (some 255))[15]? = some (some 255) ∧
    some 255 ∈ alphaList (accept 0x04 checker).latch := by decide +kernel
theorem test_witness_TableEntriesAreOptimal : 31 < 32 ∧ 63 < 64 := by decide
theorem test_witness_FixRangeMakesTheStepsAchievable :
    255 ≤ 255 ∧ 0 ≤ 255 ∧ fixRange 7 ⟨255, 0⟩ = ⟨248, 255⟩ := by decide
theorem test_witness_NoValidSlotGivesTheZeroBlock : runs 0x701 (pixels 0 fun _ => 0x12345678)
    (fun t => t.latch.valid == 0 && outWords t == [0, 0, 0, 0] && t.diag.fit == 0x00000002) = true := by
  decide +kernel

end Sys2Proof.Tests
end

section
/-! SUPPORT. The scale of a binary format and rounding onto it (00_scope.md R9): the patterns are the
naturals, `unitsOf` is their strictly increasing value, and `roundMag` gives the one pattern whose
rounding interval holds the exact value. -/

namespace Sys2Proof.Rounding

open Sys2Proof Sys2Proof.Machine Sys2Proof.Statements

/-! ## The value of a pattern -/

/-- Pattern `s * 2^frac + r` is worth `r * 2^s`, for a significand `r` up to the next binade's first:
the formula with which `roundMag` composes its result. -/
theorem unitsOf_shift_add (f : FloatFormat) {s r : Nat} (hs : s = 0 ∨ 2 ^ f.frac ≤ r)
    (hr : r ≤ 2 * 2 ^ f.frac) : unitsOf f (s * 2 ^ f.frac + r) = r * 2 ^ s := by
  have hpos : 0 < 2 ^ f.frac := Nat.two_pow_pos _
  have hmod : (s * 2 ^ f.frac + r) % 2 ^ f.frac = r % 2 ^ f.frac := Nat.mul_add_mod_self_right ..
  have hdiv : (s * 2 ^ f.frac + r) / 2 ^ f.frac = s + r / 2 ^ f.frac := by
    rw [Nat.add_comm, Nat.add_mul_div_right _ _ hpos, Nat.add_comm]
  simp only [unitsOf, Nat.shiftRight_eq_div_pow, Nat.shiftLeft_eq, hmod, hdiv]
  rcases Nat.lt_or_ge r (2 ^ f.frac) with hlt | hge
  · obtain rfl : s = 0 := by omega
    simp [Nat.mod_eq_of_lt hlt, Nat.div_eq_of_lt hlt]
  rcases Nat.lt_or_ge r (2 * 2 ^ f.frac) with hlt2 | hge2
  · have hd : r / 2 ^ f.frac = 1 := Nat.div_eq_of_lt_le (by omega) (by omega)
    have hm : r % 2 ^ f.frac + 2 ^ f.frac = r := by
      rw [Nat.mod_eq_sub_mod hge, Nat.mod_eq_of_lt (by omega)]; omega
    simp [hd, hm]
  · obtain rfl : r = 2 * 2 ^ f.frac := by omega
    simp [pow_succ]
    ring

/-- Every pattern is a significand below the next binade's first, and a shift. -/
theorem exists_shift_add (f : FloatFormat) (p : Nat) :
    ∃ s r, p = s * 2 ^ f.frac + r ∧ (s = 0 ∨ 2 ^ f.frac ≤ r) ∧ r < 2 * 2 ^ f.frac := by
  have hp := Nat.div_add_mod' p (2 ^ f.frac)
  have hm := Nat.mod_lt p (Nat.two_pow_pos f.frac)
  rcases h : p / 2 ^ f.frac with _ | e
  · exact ⟨0, p % 2 ^ f.frac, by rw [h] at hp; omega, .inl rfl, by omega⟩
  · refine ⟨e, p % 2 ^ f.frac + 2 ^ f.frac, ?_, .inr (by omega), by omega⟩
    rw [h, Nat.succ_mul] at hp
    omega

theorem unitsOf_lt_succ (f : FloatFormat) (p : Nat) : unitsOf f p < unitsOf f (p + 1) := by
  obtain ⟨s, r, rfl, hs, hr⟩ := exists_shift_add f p
  rw [unitsOf_shift_add f hs (by omega), Nat.add_assoc, unitsOf_shift_add f (by omega) (by omega)]
  exact Nat.mul_lt_mul_of_pos_right (Nat.lt_succ_self r) (Nat.two_pow_pos s)

/-- Patterns are ordered as their values are. -/
theorem unitsOf_strictMono (f : FloatFormat) : StrictMono (unitsOf f) :=
  strictMono_nat_of_lt_succ (unitsOf_lt_succ f)

@[simp] theorem unitsOf_zero (f : FloatFormat) : unitsOf f 0 = 0 := by
  simpa using unitsOf_shift_add f (s := 0) (r := 0) (.inl rfl) (Nat.zero_le _)

/-- From the second binade on, the values are even. -/
theorem unitsOf_even_of_le (f : FloatFormat) {p : Nat} (h : 2 * 2 ^ f.frac ≤ p) :
    unitsOf f p % 2 = 0 := by
  obtain ⟨s, r, rfl, hs, hr⟩ := exists_shift_add f p
  rw [unitsOf_shift_add f hs hr.le]
  obtain _ | s := s
  · omega
  · rw [pow_succ, ← Nat.mul_assoc, Nat.mul_mod_left]

/-! ## Rounding to an integer -/

/-- The quotient lies within half of the rounded integer, and at the very half that integer is even. -/
theorem roundEven_bounds (num : Nat) {den : Nat} (hden : 0 < den) :
    (den * (2 * roundEven num den) ≤ 2 * num + den ∧
      (den * (2 * roundEven num den) = 2 * num + den → roundEven num den % 2 = 0)) ∧
    (2 * num ≤ den * (2 * roundEven num den) + den ∧
      (2 * num = den * (2 * roundEven num den) + den → roundEven num den % 2 = 0)) := by
  have hq := Nat.div_add_mod num den
  have hr := Nat.mod_lt num hden
  unfold roundEven
  dsimp only
  generalize num / den = q at *
  generalize num % den = r at *
  subst hq
  split <;> rw [Nat.mul_left_comm den 2] <;> simp only [Nat.mul_add] <;> omega

theorem le_roundEven {k num den : Nat} (hden : 0 < den) (h : den * k ≤ num) :
    k ≤ roundEven num den := by
  have hk : k ≤ num / den := (Nat.le_div_iff_mul_le hden).2 (by rwa [Nat.mul_comm])
  unfold roundEven
  dsimp only
  split <;> omega

theorem roundEven_le {k num den : Nat} (hden : 0 < den) (h : num < den * k) :
    roundEven num den ≤ k := by
  have hk : num / den < k := (Nat.div_lt_iff_lt_mul hden).2 (by rwa [Nat.mul_comm])
  unfold roundEven
  dsimp only
  split <;> omega

/-! ## Rounding to a pattern -/

/-- `roundMag` before infinity cuts it off. -/
def roundUnbounded (f : FloatFormat) (num den : Nat) : Nat :=
  ((num / den).log2 - f.frac) * 2 ^ f.frac +
    roundEven num (den <<< ((num / den).log2 - f.frac))

theorem roundMag_eq_min (f : FloatFormat) (num den : Nat) :
    roundMag f num den = min (roundUnbounded f num den) f.inf := rfl

/-- The shift `s` of `roundMag` leaves a quotient of at most `frac + 1` bits, and of no fewer unless
`s` is 0. -/
theorem roundMag_shift_bounds (f : FloatFormat) (num : Nat) {den s : Nat} (hden : 0 < den)
    (hs : s = (num / den).log2 - f.frac) :
    (s = 0 ∨ den * 2 ^ s * 2 ^ f.frac ≤ num) ∧ num < den * 2 ^ s * (2 * 2 ^ f.frac) := by
  have hpow : 2 ^ s * (2 * 2 ^ f.frac) = 2 ^ (s + f.frac + 1) := by ring
  constructor
  · rcases Nat.eq_zero_or_pos s with h0 | h0
    · exact .inl h0
    · have hq : num / den ≠ 0 := fun h => by simp [h] at hs; omega
      have hle : 2 ^ (s + f.frac) ≤ num / den := by
        rw [show s + f.frac = (num / den).log2 by omega]; exact Nat.log2_self_le hq
      right
      calc den * 2 ^ s * 2 ^ f.frac = den * 2 ^ (s + f.frac) := by ring
        _ ≤ den * (num / den) := Nat.mul_le_mul_left _ hle
        _ ≤ num := Nat.mul_div_le num den
  · have hlt : num / den < 2 ^ (s + f.frac + 1) :=
      Nat.lt_log2_self.trans_le (Nat.pow_le_pow_right (by decide) (by omega))
    rw [Nat.mul_assoc, hpow, Nat.mul_comm]
    exact (Nat.div_lt_iff_lt_mul hden).1 hlt

/-- Pattern `R` is where `num / den` units round: the value is on R's side of the midpoint to every
other pattern, and R is even where the value is such a midpoint. -/
structure RoundsTo (f : FloatFormat) (num den R : Nat) : Prop where
  below : ∀ m, m < R → den * (unitsOf f m + unitsOf f R) ≤ 2 * num
  above : ∀ m, R < m → 2 * num ≤ den * (unitsOf f R + unitsOf f m)
  even_of_mid : ∀ m, m ≠ R → 2 * num = den * (unitsOf f m + unitsOf f R) → R % 2 = 0

/-- It is enough to compare with the two neighbours. -/
theorem roundsTo_of_neighbours {f : FloatFormat} {num den R : Nat}
    (hlow : ∀ p, p + 1 = R → den * (unitsOf f p + unitsOf f R) ≤ 2 * num ∧
      (den * (unitsOf f p + unitsOf f R) = 2 * num → R % 2 = 0))
    (hhigh : 2 * num ≤ den * (unitsOf f R + unitsOf f (R + 1)) ∧
      (2 * num = den * (unitsOf f R + unitsOf f (R + 1)) → R % 2 = 0)) :
    RoundsTo f num den R := by
  have mono := (unitsOf_strictMono f).monotone
  have farBelow : ∀ m, m < R → den * (unitsOf f m + unitsOf f R) ≤ 2 * num ∧
      (den * (unitsOf f m + unitsOf f R) = 2 * num → R % 2 = 0) := fun m hm => by
    obtain ⟨p, rfl⟩ : ∃ p, p + 1 = R := ⟨R - 1, by omega⟩
    have hle : den * (unitsOf f m + unitsOf f (p + 1)) ≤ den * (unitsOf f p + unitsOf f (p + 1)) :=
      Nat.mul_le_mul_left _ (Nat.add_le_add_right (mono (by omega)) _)
    obtain ⟨hp, heven⟩ := hlow p rfl
    exact ⟨hle.trans hp, fun h => heven (by omega)⟩
  have farAbove : ∀ m, R < m → 2 * num ≤ den * (unitsOf f R + unitsOf f m) ∧
      (2 * num = den * (unitsOf f R + unitsOf f m) → R % 2 = 0) := fun m hm => by
    have hle : den * (unitsOf f R + unitsOf f (R + 1)) ≤ den * (unitsOf f R + unitsOf f m) :=
      Nat.mul_le_mul_left _ (Nat.add_le_add_left (mono hm) _)
    obtain ⟨hR, heven⟩ := hhigh
    exact ⟨hR.trans hle, fun h => heven (by omega)⟩
  refine ⟨fun m hm => (farBelow m hm).1, fun m hm => (farAbove m hm).1, fun m hne h => ?_⟩
  rcases Nat.lt_or_gt_of_ne hne with hm | hm
  · exact (farBelow m hm).2 h.symm
  · exact (farAbove m hm).2 (by rw [h, Nat.add_comm])

/-- The next pattern is a whole step `2^s` away or more. -/
theorem le_unitsOf_succ (f : FloatFormat) {s r : Nat} (hs : s = 0 ∨ 2 ^ f.frac ≤ r)
    (hr : r ≤ 2 * 2 ^ f.frac) : (r + 1) * 2 ^ s ≤ unitsOf f (s * 2 ^ f.frac + r + 1) := by
  rcases hr.lt_or_eq with hlt | rfl
  · rw [Nat.add_assoc, unitsOf_shift_add f (by omega) hlt]
  · rw [show s * 2 ^ f.frac + 2 * 2 ^ f.frac + 1 = (s + 1) * 2 ^ f.frac + (2 ^ f.frac + 1) by ring,
      unitsOf_shift_add f (by omega) (by have := Nat.two_pow_pos f.frac; omega),
      show (2 ^ f.frac + 1) * 2 ^ (s + 1) = (2 * 2 ^ f.frac + 2) * 2 ^ s by ring]
    exact Nat.mul_le_mul_right _ (by omega)

/-- The heart of R9's rounding. The previous pattern is a whole step `2^s` away too, but for the first
pattern of a binade, which no value below it rounds to. -/
theorem roundUnbounded_roundsTo {f : FloatFormat} (hf : 0 < f.frac) (num : Nat) {den : Nat}
    (hden : 0 < den) : RoundsTo f num den (roundUnbounded f num den) := by
  obtain ⟨s, hs⟩ : ∃ s, s = (num / den).log2 - f.frac := ⟨_, rfl⟩
  obtain ⟨D, hD⟩ : ∃ D, D = den * 2 ^ s := ⟨_, rfl⟩
  have hDpos : 0 < D := hD ▸ Nat.mul_pos hden (Nat.two_pow_pos s)
  have hscale : ∀ k, den * (k * 2 ^ s) = D * k := fun k => by rw [hD]; ring
  obtain ⟨hlarge, hsmall⟩ := roundMag_shift_bounds f num hden hs
  rw [← hD] at hlarge hsmall
  obtain ⟨⟨hlow, hlowEven⟩, hhigh, hhighEven⟩ := roundEven_bounds num hDpos
  have hrs := hlarge.imp_right (le_roundEven hDpos)
  have hr := roundEven_le hDpos hsmall
  rw [roundUnbounded, ← hs, Nat.shiftLeft_eq, ← hD]
  generalize roundEven num D = r at *
  have hparity : (s * 2 ^ f.frac + r) % 2 = r % 2 := by
    obtain ⟨k, hk⟩ : ∃ k, 2 ^ f.frac = 2 * k :=
      ⟨2 ^ (f.frac - 1), by rw [← pow_succ', Nat.sub_add_cancel hf]⟩
    rw [hk, Nat.mul_left_comm, Nat.mul_add_mod]
  rw [Nat.mul_left_comm D 2] at *
  have hR := unitsOf_shift_add f hrs hr
  apply roundsTo_of_neighbours <;> simp only [hparity, Nat.mul_add]
  · intro p hp
    by_cases hfirst : s = 0 ∨ 2 ^ f.frac < r
    · have hr0 : r ≠ 0 := by
        rintro rfl
        obtain rfl : s = 0 := by omega
        simp at hp
      obtain ⟨q, rfl⟩ := Nat.exists_eq_succ_of_ne_zero hr0
      obtain rfl : p = s * 2 ^ f.frac + q := by omega
      rw [hR, unitsOf_shift_add f (by omega) (by omega), hscale, hscale]
      rw [Nat.mul_succ] at *
      exact ⟨by omega, fun h => hlowEven (by omega)⟩
    · obtain rfl : r = 2 ^ f.frac := by omega
      have hlt : den * unitsOf f p < den * unitsOf f (s * 2 ^ f.frac + 2 ^ f.frac) :=
        Nat.mul_lt_mul_of_pos_left (unitsOf_strictMono f (by omega)) hden
      rw [hR, hscale] at *
      omega
  · have hnext := Nat.mul_le_mul_left den (le_unitsOf_succ f hrs hr)
    rw [hscale, Nat.mul_succ] at hnext
    rw [hR, hscale]
    exact ⟨by omega, fun h => hhighEven (by omega)⟩

/-- A result below infinity is the pattern the value rounds to. -/
theorem roundMag_roundsTo {f : FloatFormat} (hf : 0 < f.frac) {num den : Nat} (hden : 0 < den)
    (h : roundMag f num den < f.inf) : RoundsTo f num den (roundMag f num den) := by
  have heq : roundMag f num den = roundUnbounded f num den := by
    rw [roundMag_eq_min] at h ⊢; omega
  exact heq ▸ roundUnbounded_roundsTo hf num hden

/-- The interval property in distances: no other pattern is nearer, and one as near leaves R even. -/
theorem RoundsTo.nearest {f : FloatFormat} {num den R : Nat} (h : RoundsTo f num den R)
    (hden : 0 < den) (m : Nat) :
    ((num : Int) - den * unitsOf f R).natAbs ≤ ((num : Int) - den * unitsOf f m).natAbs ∧
    (((num : Int) - den * unitsOf f R).natAbs = ((num : Int) - den * unitsOf f m).natAbs →
      m = R ∨ R % 2 = 0) := by
  have hmono {a b : Nat} (hab : a < b) : den * unitsOf f a < den * unitsOf f b :=
    Nat.mul_lt_mul_of_pos_left (unitsOf_strictMono f hab) hden
  rcases Nat.lt_trichotomy m R with hm | rfl | hm
  · have hlt := hmono hm
    have hle := h.below m hm
    have heven := h.even_of_mid m hm.ne
    rw [Nat.mul_add] at hle heven
    zify at hlt hle heven
    omega
  · exact ⟨le_rfl, fun _ => .inl rfl⟩
  · have hlt := hmono hm
    have hle := h.above m hm
    have heven := h.even_of_mid m hm.ne'
    rw [Nat.mul_add] at hle heven
    zify at hlt hle heven
    omega

/-- A pattern's own value rounds to that pattern. -/
theorem roundMag_unitsOf {f : FloatFormat} (hf : 0 < f.frac) {den p : Nat} (hden : 0 < den)
    (hp : p ≤ f.inf) : roundMag f (den * unitsOf f p) den = p := by
  have h := (roundUnbounded_roundsTo hf (den * unitsOf f p) hden).nearest hden p
  have heq : unitsOf f (roundUnbounded f (den * unitsOf f p) den) = unitsOf f p := by
    have h0 := h.1
    push_cast at h0
    rw [sub_self, Int.natAbs_zero, Nat.le_zero, Int.natAbs_eq_zero, ← mul_sub, mul_eq_zero] at h0
    omega
  rw [roundMag_eq_min, (unitsOf_strictMono f).injective heq, Nat.min_eq_left hp]

/-! ## Infinity -/

theorem inf_pos_even {f : FloatFormat} (hf : 0 < f.frac) (he : 0 < f.expMax) :
    0 < f.inf ∧ f.inf % 2 = 0 := by
  refine ⟨Nat.mul_pos he (Nat.two_pow_pos _), ?_⟩
  rw [FloatFormat.inf, ← Nat.sub_add_cancel hf, pow_succ, ← Nat.mul_assoc, Nat.mul_mod_left]

/-- Infinity's pattern continues the scale of the finite ones by one step. -/
theorem unitsOf_inf {f : FloatFormat} (he : 0 < f.expMax) :
    unitsOf f f.inf = 2 ^ (f.frac + (f.expMax - 1)) := by
  obtain ⟨e, he⟩ : ∃ e, f.expMax = e + 1 := ⟨f.expMax - 1, by omega⟩
  rw [FloatFormat.inf, he, Nat.succ_mul, unitsOf_shift_add f (.inr le_rfl) (by omega), pow_add,
    Nat.add_sub_cancel]

/-- The midpoint of the largest finite pattern and infinity's, twice. -/
theorem unitsOf_pred_inf_add {f : FloatFormat} (he : 3 ≤ f.expMax) :
    unitsOf f (f.inf - 1) + unitsOf f f.inf = 2 * ((2 ^ (f.frac + 2) - 1) * 2 ^ (f.expMax - 3)) := by
  have hpos := Nat.two_pow_pos f.frac
  rw [unitsOf_inf (by omega)]
  obtain ⟨e, he⟩ : ∃ e, f.expMax = e + 3 := ⟨f.expMax - 3, by omega⟩
  have hpred : f.inf - 1 = (e + 1) * 2 ^ f.frac + (2 * 2 ^ f.frac - 1) := by
    rw [FloatFormat.inf, he, show (e + 3) * 2 ^ f.frac = (e + 1) * 2 ^ f.frac + 2 * 2 ^ f.frac by ring]
    omega
  rw [hpred, unitsOf_shift_add f (by omega) (by omega), he, Nat.add_sub_cancel]
  zify [show 1 ≤ 2 * 2 ^ f.frac by omega, Nat.one_le_two_pow (n := f.frac + 2)]
  rw [show f.frac + (e + 3 - 1) = f.frac + e + 2 by omega]
  ring

/-- R9: infinity exactly from half a unit in the last place above the largest finite value on. -/
theorem roundMag_eq_inf_iff {f : FloatFormat} (hf : 0 < f.frac) (he : 3 ≤ f.expMax) (num : Nat)
    {den : Nat} (hden : 0 < den) :
    roundMag f num den = f.inf ↔ den * ((2 ^ (f.frac + 2) - 1) * 2 ^ (f.expMax - 3)) ≤ num := by
  have h := roundUnbounded_roundsTo hf num hden
  obtain ⟨hinf, heven⟩ := inf_pos_even hf (by omega : 0 < f.expMax)
  have hmid : den * (unitsOf f (f.inf - 1) + unitsOf f f.inf) =
      2 * (den * ((2 ^ (f.frac + 2) - 1) * 2 ^ (f.expMax - 3))) := by
    rw [unitsOf_pred_inf_add he, Nat.mul_left_comm]
  have mono := (unitsOf_strictMono f).monotone
  rw [roundMag_eq_min, min_eq_right_iff]
  constructor
  · intro hle
    have hbelow := h.below (f.inf - 1) (by omega)
    have hR : den * (unitsOf f (f.inf - 1) + unitsOf f f.inf) ≤
        den * (unitsOf f (f.inf - 1) + unitsOf f (roundUnbounded f num den)) :=
      Nat.mul_le_mul_left _ (Nat.add_le_add_left (mono hle) _)
    omega
  · intro hle
    by_contra hlt
    have habove := h.above f.inf (by omega)
    have hR : den * (unitsOf f (roundUnbounded f num den) + unitsOf f f.inf) ≤
        den * (unitsOf f (f.inf - 1) + unitsOf f f.inf) :=
      Nat.mul_le_mul_left _ (Nat.add_le_add_right (mono (by omega)) _)
    have hodd := h.even_of_mid f.inf (by omega) (by rw [Nat.add_comm (unitsOf f f.inf)]; omega)
    have heq : unitsOf f (roundUnbounded f num den) + unitsOf f f.inf =
        unitsOf f (f.inf - 1) + unitsOf f f.inf := Nat.eq_of_mul_eq_mul_left hden (by omega)
    have := (unitsOf_strictMono f).injective (Nat.add_right_cancel heq)
    omega

end Sys2Proof.Rounding
end

section
/-! SUPPORT. The scalar operations as rounded exact results, and the comparisons by value (00_scope.md
R9 to R11, 40_vector_primitives.md R404, R405, R411). -/

namespace Sys2Proof.Scalar

open Sys2Proof Sys2Proof.Machine Sys2Proof.Statements Sys2Proof.Rounding

theorem binary32_frac_pos : 0 < binary32.frac := by decide

/-! ## Values -/

@[simp] theorem natAbs_fvalue (x : F32) : (fvalue x).natAbs = funits x := by
  unfold fvalue
  split <;> simp

theorem funits_eq_zero_iff (x : F32) : funits x = 0 ↔ fmag x = 0 := by
  have h := (unitsOf_strictMono binary32).injective.eq_iff (a := fmag x) (b := 0)
  rwa [unitsOf_zero] at h

theorem fvalue_eq_zero_iff (x : F32) : fvalue x = 0 ↔ fmag x = 0 := by
  rw [← Int.natAbs_eq_zero, natAbs_fvalue, funits_eq_zero_iff]

theorem fsign_of_fvalue_pos {x : F32} (h : 0 < fvalue x) : fsign x = false := by
  by_contra hs
  simp only [fvalue, Bool.not_eq_false] at h hs
  rw [if_pos hs] at h
  omega

theorem isNaN_of_finite {x : F32} (h : finite x) : isNaN x = false := by
  have : fmag x < binary32.inf := by rwa [binary32_inf]
  simp [isNaN, this.le]

theorem isInf_of_finite {x : F32} (h : finite x) : isInf x = false := by
  have : fmag x < binary32.inf := by rwa [binary32_inf]
  simp [isInf, this.ne]

/-- Infinity's pattern counts as 2^277 units. -/
theorem unitsOf_binary32_inf : unitsOf binary32 binary32.inf = 2 ^ 277 := by
  rw [unitsOf_inf (by decide)]
  congr 1

theorem funits_lt_of_finite {x : F32} (h : finite x) : funits x < 2 ^ 277 := by
  rw [← unitsOf_binary32_inf, binary32_inf]
  exact unitsOf_strictMono binary32 h

/-! ## Sums, products and quotients -/

theorem froundSum_of_ne_zero {z : Int} (h : z ≠ 0) (n : Bool) (den : Nat) :
    froundSum n z den = nearest z den := by
  rw [froundSum, if_neg h]; rfl

theorem froundSum_of_eq_zero {z : Int} (h : z = 0) (n : Bool) (den : Nat) :
    froundSum n z den = fpack n 0 := by
  rw [froundSum, if_pos h]

theorem fadd_of_finite {a b : F32} (ha : finite a) (hb : finite b) :
    fadd a b = froundSum (fsign a && fsign b) (fvalue a + fvalue b) 1 := by
  simp [fadd, isNaN_of_finite ha, isNaN_of_finite hb, isInf_of_finite ha, isInf_of_finite hb]

theorem finite_fneg {x : F32} (h : finite x) : finite (fneg x) := by
  rwa [finite, fmag_fneg]

theorem fsub_of_finite {a b : F32} (ha : finite a) (hb : finite b) :
    fsub a b = froundSum (fsign a && !fsign b) (fvalue a - fvalue b) 1 := by
  rw [fsub, fadd_of_finite ha (finite_fneg hb), fsign_fneg, fvalue_fneg, sub_eq_add_neg]

theorem fmul_of_finite {a b : F32} (ha : finite a) (hb : finite b) :
    fmul a b = fround (productNegative a b) (fvalue a * fvalue b).natAbs (2 ^ 149) := by
  simp [fmul, productNegative, isNaN_of_finite ha, isNaN_of_finite hb, isInf_of_finite ha,
    isInf_of_finite hb, Int.natAbs_mul]

theorem fdiv_of_finite {a b : F32} (ha : finite a) (hb : finite b) (h0 : fvalue b ≠ 0) :
    fdiv a b =
      fround (productNegative a b) ((fvalue a).natAbs * 2 ^ 149) (fvalue b).natAbs := by
  have hz : isZero b = false := by simpa [isZero, fvalue_eq_zero_iff] using h0
  simp [fdiv, productNegative, isNaN_of_finite ha, isNaN_of_finite hb, isInf_of_finite ha,
    isInf_of_finite hb, hz]

/-- The fused form; an exact zero is -0 for a negative product and a negative addend (log 8). -/
theorem ffma_of_finite {a b c : F32} (ha : finite a) (hb : finite b) (hc : finite c) :
    ffma a b c = froundSum (productNegative a b && fsign c)
      (fvalue a * fvalue b + fvalue c * 2 ^ 149) (2 ^ 149) := by
  simp [ffma, productNegative, isNaN_of_finite ha, isNaN_of_finite hb, isNaN_of_finite hc,
    isInf_of_finite ha, isInf_of_finite hb, isInf_of_finite hc]

theorem fnmsub_of_finite {a b c : F32} (ha : finite a) (hb : finite b) (hc : finite c) :
    fnmsub true a b c = froundSum (productNegative (fneg a) b && fsign c)
      (fvalue c * 2 ^ 149 - fvalue a * fvalue b) (2 ^ 149) := by
  rw [fnmsub, if_pos rfl, ffma_of_finite (finite_fneg ha) hb hc, fvalue_fneg]
  congr 1
  ring

theorem fmag_froundSum_zero (n : Bool) {z : Int} (h : z = 0) (den : Nat) :
    fmag (froundSum n z den) = 0 := by
  rw [froundSum_of_eq_zero h, fmag_fpack n (by decide)]

/-! ## The square root -/

/-- The bits from `k` down are decided, and the root lies in their interval. -/
theorem isqrtFrom_bounds (n k r : Nat) (hlow : r * r ≤ n) (hhigh : n < (r + 2 ^ k) * (r + 2 ^ k)) :
    isqrtFrom n k r * isqrtFrom n k r ≤ n ∧
      n < (isqrtFrom n k r + 1) * (isqrtFrom n k r + 1) := by
  induction k generalizing r with
  | zero => exact ⟨hlow, hhigh⟩
  | succ k ih =>
    rw [pow_succ, Nat.mul_two, ← Nat.add_assoc] at hhigh
    rw [isqrtFrom]
    split
    · next hbit => exact ih _ hbit hhigh
    · next hbit => exact ih r hlow (Nat.lt_of_not_le hbit)

/-- `isqrt` is the integer square root. -/
theorem isqrt_bounds (n : Nat) : isqrt n * isqrt n ≤ n ∧ n < (isqrt n + 1) * (isqrt n + 1) := by
  refine isqrtFrom_bounds n _ 0 (Nat.zero_le _) ?_
  rw [Nat.zero_add, ← pow_add]
  exact Nat.lt_log2_self.trans_le (Nat.pow_le_pow_right (by decide) (by omega))

theorem two_pow_le_isqrt {n k : Nat} (h : 2 ^ k * 2 ^ k ≤ n) : 2 ^ k ≤ isqrt n :=
  Nat.lt_succ_iff.1 (Nat.mul_self_lt_mul_self_iff.1 (h.trans_lt (isqrt_bounds n).2))

theorem isqrt_lt_two_pow {n k : Nat} (h : n < 2 ^ k * 2 ^ k) : isqrt n < 2 ^ k :=
  Nat.mul_self_lt_mul_self_iff.1 ((isqrt_bounds n).1.trans_lt h)

/-- What `fsqrt` rounds, in half units: twice the integer root, and one more where it is inexact. -/
def rootHalves (n : Nat) : Nat := 2 * isqrt n + (if isqrt n * isqrt n = n then 0 else 1)

/-- An even bound of the half units bounds the exact root of n likewise. -/
theorem sq_le_of_le_rootHalves {t n : Nat} (heven : t % 2 = 0) (h : t ≤ rootHalves n) :
    t ^ 2 ≤ 4 * n := by
  have hle : t ≤ 2 * isqrt n := by
    unfold rootHalves at h
    split at h <;> omega
  calc t ^ 2 ≤ (2 * isqrt n) ^ 2 := Nat.pow_le_pow_left hle 2
    _ = 4 * (isqrt n * isqrt n) := by ring
    _ ≤ 4 * n := Nat.mul_le_mul_left 4 (isqrt_bounds n).1

theorem le_sq_of_rootHalves_le {t n : Nat} (heven : t % 2 = 0) (h : rootHalves n ≤ t) :
    4 * n ≤ t ^ 2 := by
  unfold rootHalves at h
  split at h
  · next hexact =>
    calc 4 * n = 4 * (isqrt n * isqrt n) := by rw [hexact]
      _ = (2 * isqrt n) ^ 2 := by ring
      _ ≤ t ^ 2 := Nat.pow_le_pow_left (by omega) 2
  · calc 4 * n ≤ 4 * ((isqrt n + 1) * (isqrt n + 1)) := Nat.mul_le_mul_left 4 (isqrt_bounds n).2.le
      _ = (2 * isqrt n + 2) ^ 2 := by ring
      _ ≤ t ^ 2 := Nat.pow_le_pow_left (by omega) 2

/-- The root of a positive finite value is the rounding of those half units. -/
theorem fsqrt_of_pos {a : F32} (ha : finite a) (h : 0 < fvalue a) :
    fsqrt a = fround false (rootHalves (funits a * 2 ^ 149)) 2 := by
  have hz : isZero a = false := by simpa [isZero, fvalue_eq_zero_iff] using h.ne'
  simp [fsqrt, rootHalves, isNaN_of_finite ha, isInf_of_finite ha, fsign_of_fvalue_pos h, hz]

/-- Half units of a root that is far from both ends of the format, as the root of every finite value
is, round to a finite pattern above the first two binades, and nearest among the patterns. -/
theorem roundMag_rootHalves {n : Nat} (hlow : 2 ^ 149 ≤ n) (hhigh : n < 2 ^ 426) :
    roundMag binary32 (rootHalves n) 2 < binary32.inf ∧
    2 ^ 24 < roundMag binary32 (rootHalves n) 2 ∧
    RoundsTo binary32 (rootHalves n) 2 (roundMag binary32 (rootHalves n) 2) := by
  have hroot : 2 ^ 74 ≤ isqrt n := two_pow_le_isqrt (by omega)
  have hroot' : isqrt n < 2 ^ 213 := isqrt_lt_two_pow (by omega)
  have hfin : roundMag binary32 (rootHalves n) 2 < binary32.inf := by
    refine lt_of_le_of_ne (roundMag_le_inf _ _ _) fun heq => ?_
    rw [roundMag_eq_inf_iff (by decide) (by decide) _ (by decide)] at heq
    norm_num [binary32, rootHalves] at heq
    split at heq <;> omega
  have hrounds := roundMag_roundsTo binary32_frac_pos (by decide) hfin
  refine ⟨hfin, ?_, hrounds⟩
  by_contra hsmall
  have habove := hrounds.above (2 ^ 24 + 1) (by omega)
  have hmono := (unitsOf_strictMono binary32).monotone (Nat.le_of_not_lt hsmall)
  have hunits : unitsOf binary32 (2 ^ 24) = 2 ^ 24 ∧ unitsOf binary32 (2 ^ 24 + 1) = 2 ^ 24 + 2 := by
    decide
  rw [hunits.1] at hmono
  rw [hunits.2] at habove
  unfold rootHalves at *
  omega

/-- The root of a positive finite value: no midpoint of it and another pattern is beyond the exact
root. -/
theorem fsqrt_nearest {a : F32} (ha : finite a) (h : 0 < fvalue a) :
    finite (fsqrt a) ∧ fsign (fsqrt a) = false ∧
    ∀ m,
      (m < fmag (fsqrt a) →
        ((unitsOf binary32 m + fvalue (fsqrt a)) ^ 2 : Int) ≤ 4 * (fvalue a * 2 ^ 149)) ∧
      (fmag (fsqrt a) < m →
        4 * (fvalue a * 2 ^ 149) ≤ ((unitsOf binary32 m + fvalue (fsqrt a)) ^ 2 : Int)) := by
  have hval : fvalue a = funits a := by rw [fvalue, if_neg (by simp [fsign_of_fvalue_pos h])]
  have hpos : 0 < funits a := by omega
  have hlt := funits_lt_of_finite ha
  obtain ⟨hfin, hbig, hrounds⟩ := roundMag_rootHalves (n := funits a * 2 ^ 149) (by omega) (by omega)
  have hmag : fmag (fsqrt a) = roundMag binary32 (rootHalves (funits a * 2 ^ 149)) 2 := by
    rw [fsqrt_of_pos ha h, fmag_fround]
  have hsign : fsign (fsqrt a) = false := by rw [fsqrt_of_pos ha h, fsign_fround]
  have hroot : fvalue (fsqrt a) = unitsOf binary32 (fmag (fsqrt a)) := by
    rw [fvalue, hsign, if_neg (by decide), funits]
  rw [← hmag] at hfin hbig hrounds
  have heven {p : Nat} (hp : 2 ^ 24 ≤ p) : unitsOf binary32 p % 2 = 0 := unitsOf_even_of_le _ hp
  have hR := heven hbig.le
  have mono := (unitsOf_strictMono binary32).monotone
  refine ⟨by rwa [finite, ← binary32_inf], hsign, fun m => ⟨fun hm => ?_, fun hm => ?_⟩⟩
  · have hle := hrounds.below (fmag (fsqrt a) - 1) (by omega)
    have hprev := heven (p := fmag (fsqrt a) - 1) (by omega)
    have hm' : unitsOf binary32 m ≤ unitsOf binary32 (fmag (fsqrt a) - 1) := mono (by omega)
    have hsq := sq_le_of_le_rootHalves (n := funits a * 2 ^ 149)
      (t := unitsOf binary32 (fmag (fsqrt a) - 1) + unitsOf binary32 (fmag (fsqrt a)))
      (by omega) (by omega)
    rw [hroot, hval]
    exact_mod_cast (Nat.pow_le_pow_left (Nat.add_le_add_right hm' _) 2).trans hsq
  · have hge := hrounds.above m hm
    have hsq := le_sq_of_rootHalves_le (t := unitsOf binary32 m + unitsOf binary32 (fmag (fsqrt a)))
      (n := funits a * 2 ^ 149) (by have := heven (hbig.trans hm).le; omega) (by omega)
    rw [hroot, hval]
    exact_mod_cast hsq

/-! ## Conversion of naturals -/

/-- A positive natural up to 2^24 has a shift to a 24-bit significand, or to 2^24 itself. -/
theorem exists_normalising_shift {n : Nat} (hpos : 0 < n) (h : n ≤ 2 ^ 24) :
    ∃ k, k ≤ 23 ∧ 2 ^ 23 ≤ n * 2 ^ (23 - k) ∧ n * 2 ^ (23 - k) ≤ 2 ^ 24 := by
  rcases h.lt_or_eq with hlt | rfl
  · have hk : n.log2 < 24 := (Nat.log2_lt hpos.ne').2 hlt
    refine ⟨n.log2, by omega, ?_, ?_⟩
    · calc 2 ^ 23 = 2 ^ n.log2 * 2 ^ (23 - n.log2) := by rw [← pow_add]; congr 1; omega
        _ ≤ n * 2 ^ (23 - n.log2) := Nat.mul_le_mul_right _ (Nat.log2_self_le hpos.ne')
    · calc n * 2 ^ (23 - n.log2) ≤ 2 ^ (n.log2 + 1) * 2 ^ (23 - n.log2) :=
          Nat.mul_le_mul_right _ Nat.lt_log2_self.le
        _ = 2 ^ 24 := by rw [← pow_add]; congr 1; omega
  · exact ⟨23, by decide⟩

/-- Every natural up to 2^24 is the value of a finite pattern (R11). -/
theorem exists_unitsOf_eq {n : Nat} (h : n ≤ 2 ^ 24) :
    ∃ p, p < binary32.inf ∧ unitsOf binary32 p = n * 2 ^ 149 := by
  rcases Nat.eq_zero_or_pos n with rfl | hpos
  · exact ⟨0, by decide, by simp⟩
  obtain ⟨k, hk, hlow, hhigh⟩ := exists_normalising_shift hpos h
  refine ⟨(126 + k) * 2 ^ 23 + n * 2 ^ (23 - k), by rw [binary32_inf]; omega, ?_⟩
  rw [show 2 ^ 23 = 2 ^ binary32.frac from rfl, unitsOf_shift_add binary32 (.inr hlow) hhigh,
    Nat.mul_assoc, ← pow_add, show 23 - k + (126 + k) = 149 by omega]

theorem f32OfNat_exact {n : Nat} (h : n ≤ 2 ^ 24) :
    finite (f32OfNat n) ∧ fvalue (f32OfNat n) = n * 2 ^ 149 := by
  obtain ⟨p, hp, hunits⟩ := exists_unitsOf_eq h
  have hmag : fmag (f32OfNat n) = p := by
    have := roundMag_unitsOf binary32_frac_pos Nat.one_pos hp.le
    rw [f32OfNat, fmag_fround, ← hunits]
    rwa [Nat.one_mul] at this
  refine ⟨by rwa [finite, hmag, ← binary32_inf], ?_⟩
  have hsign : fsign (f32OfNat n) = false := fsign_fround _ _ _
  rw [fvalue, hsign, if_neg (by decide), funits, hmag, hunits]
  norm_cast

/-! ## Comparisons -/

/-- A signed value is ordered like its signed pattern, which `fkey` compares. -/
theorem fkey_lt_iff (a b : F32) : fkey a < fkey b ↔ fvalue a < fvalue b := by
  have hlt (x y : F32) : fmag x < fmag y ↔ funits x < funits y :=
    (unitsOf_strictMono binary32).lt_iff_lt.symm
  have hab := hlt a b
  have hba := hlt b a
  have ha := funits_eq_zero_iff a
  have hb := funits_eq_zero_iff b
  unfold fkey fvalue
  split_ifs <;> omega

theorem fkey_eq_iff (a b : F32) : fkey a = fkey b ↔ fvalue a = fvalue b := by
  have hab := fkey_lt_iff a b
  have hba := fkey_lt_iff b a
  omega

theorem flt_iff {a b : F32} (ha : isNaN a = false) (hb : isNaN b = false) :
    flt a b = true ↔ fvalue a < fvalue b := by
  simp [flt, ha, hb, fkey_lt_iff]

theorem feq_iff {a b : F32} (ha : isNaN a = false) (hb : isNaN b = false) :
    feq a b = true ↔ fvalue a = fvalue b := by
  simp [feq, ha, hb, fkey_eq_iff]

theorem compare_nan {a b : F32} (h : isNaN a = true ∨ isNaN b = true) :
    flt a b = false ∧ feq a b = false := by
  rcases h with h | h <;> simp [flt, feq, h]

/-! ## The obligations -/

/-- Settles O25: `roundMag` by the rounding interval of its pattern, each operation by its exact result,
the root by the parity of the patterns around it. -/
theorem roundingIsToNearestTiesToEven : Obligations.RoundingIsToNearestTiesToEven := by
  refine ⟨fun f num den hf hden => ?_, fun a b ha hb => ?_, fun a ha hpos => ?_, fun a hz => ?_,
    fun a b c ha hb hc => ?_, fun n hn => f32OfNat_exact hn⟩
  · obtain ⟨hfrac, hexp⟩ : 0 < f.frac ∧ 3 ≤ f.expMax := by
      rcases hf with rfl | rfl <;> decide
    exact ⟨fun hfin m _ => (roundMag_roundsTo hfrac hden hfin).nearest hden m,
      roundMag_eq_inf_iff hfrac hexp num hden⟩
  · rw [fadd_of_finite ha hb, fsub_of_finite ha hb]
    exact ⟨fun h => froundSum_of_ne_zero h _ _, fun h => froundSum_of_eq_zero h _ _,
      fun h => froundSum_of_ne_zero h _ _, fun h => froundSum_of_eq_zero h _ _,
      fmul_of_finite ha hb, fdiv_of_finite ha hb⟩
  · obtain ⟨hfin, hsign, hnear⟩ := fsqrt_nearest ha hpos
    exact ⟨hfin, hsign, fun m _ => hnear m⟩
  · simp [fsqrt, isNaN, isZero, hz]
  · rw [ffma_of_finite ha hb hc, fnmsub_of_finite ha hb hc]
    exact ⟨fun h => froundSum_of_ne_zero h _ _, fun h => fmag_froundSum_zero _ h _,
      fun h => froundSum_of_ne_zero h _ _, fun h => fmag_froundSum_zero _ h _⟩

/-- Settles O26: patterns are ordered as their values are, infinity's pattern included. -/
theorem comparisonsAreByValue : Obligations.ComparisonsAreByValue := by
  refine ⟨fun a b ha hb => ⟨flt_iff ha hb, feq_iff ha hb⟩, fun a ha => ?_, fun a ha => ?_,
    by decide, fun a b h => compare_nan h⟩
  · have hmag : fmag a = binary32.inf := by simpa [isInf] using ha
    rw [natAbs_fvalue, funits, hmag, unitsOf_binary32_inf]
  · rw [natAbs_fvalue]
    exact funits_lt_of_finite ha

end Sys2Proof.Scalar
end

section
/-! SUPPORT. What a complete step can do, by the class of its command, and that its results come from
the latch, the parameters and the free choices alone (10_state.md R122, 20_memory.md R212). -/

namespace Sys2Proof.Results

open Sys2Proof Sys2Proof.Machine Sys2Proof.Statements

/-- Two states with the same latch, parameters and count of free choices complete a command alike: in
each class the result written is one value for both. -/
theorem exec_classes {s1 s2 : State} (h : sameLatch s1 s2) (i : Instr) :
    (i = .nop ∧ exec i s1 = .next (finish s1) ∧ exec i s2 = .next (finish s2)) ∨
    (isPrimitive i = true ∧
      ∃ v, exec i s1 = completePrimitive v s1 ∧ exec i s2 = completePrimitive v s2) ∨
    (isDecode i = true ∧
      ∃ p, exec i s1 = completeDecode p s1 ∧ exec i s2 = completeDecode p s2) ∨
    (isEncode i = true ∧
      ∃ b d n, exec i s1 = completeEncode b d (setFreeTies n s1) ∧
        exec i s2 = completeEncode b d (setFreeTies n s2)) := by
  cases s1
  cases s2
  obtain ⟨rfl, rfl, rfl⟩ := h
  cases i with
  | nop => exact .inl ⟨rfl, rfl, rfl⟩
  | encDxt1 cf wa a1 => exact .inr (.inr (.inr ⟨rfl, _, _, _, rfl, rfl⟩))
  | encDxt3 cf wa => exact .inr (.inr (.inr ⟨rfl, _, _, _, rfl, rfl⟩))
  | encDxt5 cf wa => exact .inr (.inr (.inr ⟨rfl, _, _, _, rfl, rfl⟩))
  | encAlphaExplicit => exact .inr (.inr (.inr ⟨rfl, _, _, _, rfl, rfl⟩))
  | encAlphaInterp => exact .inr (.inr (.inr ⟨rfl, _, _, _, rfl, rfl⟩))
  | decDxt1 => exact .inr (.inr (.inl ⟨rfl, _, rfl, rfl⟩))
  | decDxt3 => exact .inr (.inr (.inl ⟨rfl, _, rfl, rfl⟩))
  | decDxt5 => exact .inr (.inr (.inl ⟨rfl, _, rfl, rfl⟩))
  | decAlphaExplicit => exact .inr (.inr (.inl ⟨rfl, _, rfl, rfl⟩))
  | decAlphaInterp => exact .inr (.inr (.inl ⟨rfl, _, rfl, rfl⟩))
  | decColor4 => exact .inr (.inr (.inl ⟨rfl, _, rfl, rfl⟩))
  | _ => exact .inr (.inl ⟨rfl, _, rfl, rfl⟩)

/-- What every command leaves and sets (60_exceptions.md R903). -/
theorem exec_frame {i : Instr} {s t : State} (h : exec i s = .next t) :
    t.cmd = s.cmd ∧ t.params = s.params ∧ t.status = ⟨false, true, s.status.errcode⟩ := by
  obtain ⟨-, he⟩ | ⟨v, he⟩ | ⟨p, he⟩ | ⟨b, d, n, he⟩ := exec_cases i s <;>
    cases he.symm.trans h <;> exact ⟨rfl, rfl, rfl⟩

/-! ## The classes exclude one another -/

theorem classes_of_isPrimitive {i : Instr} (h : isPrimitive i = true) :
    isEncode i = false ∧ isDecode i = false := by
  simp only [isPrimitive, Bool.and_eq_true, Bool.not_eq_true'] at h
  exact h.1

theorem classes_of_isDecode {i : Instr} (h : isDecode i = true) :
    isEncode i = false ∧ isPrimitive i = false :=
  ⟨by cases i <;> cases h <;> rfl, by simp [isPrimitive, h]⟩

theorem classes_of_isEncode {i : Instr} (h : isEncode i = true) :
    isDecode i = false ∧ isPrimitive i = false :=
  ⟨by cases i <;> cases h <;> rfl, by simp [isPrimitive, h]⟩

/-- Settles O16: the class of the command decides which register holds its result. -/
theorem resultsDependOnTheLatchAlone : Obligations.ResultsDependOnTheLatchAlone := by
  intro i s1 s2 h
  have ⟨_, _, hties⟩ := h
  obtain ⟨rfl, h1, h2⟩ | ⟨hi, v, h1, h2⟩ | ⟨hi, p, h1, h2⟩ | ⟨hi, b, d, n, h1, h2⟩ :=
    exec_classes h i
  · exact ⟨_, _, h1, h2, hties, by simp [isEncode], by simp [isDecode], by simp [isPrimitive],
      fun hne => absurd rfl hne⟩
  · obtain ⟨henc, hdec⟩ := classes_of_isPrimitive hi
    exact ⟨_, _, h1, h2, hties, by simp [henc], by simp [hdec], fun _ => rfl, fun _ => rfl⟩
  · obtain ⟨henc, hprim⟩ := classes_of_isDecode hi
    exact ⟨_, _, h1, h2, hties, by simp [henc], fun _ => rfl, by simp [hprim], fun _ => rfl⟩
  · obtain ⟨hdec, hprim⟩ := classes_of_isEncode hi
    exact ⟨_, _, h1, h2, rfl, fun _ => rfl, by simp [hdec], by simp [hprim], fun _ => rfl⟩

end Sys2Proof.Results
end

section
/-! SUPPORT. The invariant of every step (10_state.md R102 to R112, 46_alpha_codec.md R704): what the
encodes write into the diagnostic registers stays in its bounds, and no other event can break the
rest. -/

namespace Sys2Proof.Invariant

open Sys2Proof Sys2Proof.Machine Sys2Proof.Statements Sys2Proof.Safety Sys2Proof.Results

/-! ## Fields of the diagnostic words -/

theorem diagFitWord_toNat (f n p o : Nat) :
    (diagFitWord f n p o).toNat = f % 4 + 16 * (n % 32) + 4096 * (p % 16) + 65536 * (o % 2) := by
  rw [diagFitWord]
  repeat rw [BitVec.toNat_append, ← Nat.shiftLeft_add_eq_or_of_lt (BitVec.isLt _)]
  simp only [BitVec.ofNat_eq_ofNat, BitVec.toNat_ofNat, Nat.shiftLeft_eq]
  omega

/-- A field of DIAG_FIT is a quotient and remainder of its number. -/
theorem extract_diagFitWord (f n p o start len : Nat) :
    ((diagFitWord f n p o).extractLsb' start len).toNat =
      (f % 4 + 16 * (n % 32) + 4096 * (p % 16) + 65536 * (o % 2)) / 2 ^ start % 2 ^ len := by
  rw [BitVec.extractLsb'_toNat, diagFitWord_toNat, Nat.shiftRight_eq_div_pow]

@[simp] theorem diagFitWord_fitter (f n p o : Nat) :
    (diagFitWord f n p o).extractLsb' 0 2 = BitVec.ofNat 2 f := by
  apply BitVec.eq_of_toNat_eq
  rw [extract_diagFitWord, BitVec.toNat_ofNat]
  omega

@[simp] theorem diagFitWord_nPoints (f n p o : Nat) :
    (diagFitWord f n p o).extractLsb' 4 5 = BitVec.ofNat 5 n := by
  apply BitVec.eq_of_toNat_eq
  rw [extract_diagFitWord, BitVec.toNat_ofNat]
  omega

@[simp] theorem diagFitWord_cfPasses (f n p o : Nat) :
    (diagFitWord f n p o).extractLsb' 12 4 = BitVec.ofNat 4 p := by
  apply BitVec.eq_of_toNat_eq
  rw [extract_diagFitWord, BitVec.toNat_ofNat]
  omega

@[simp] theorem diagFitWord_scOrient (f n p o : Nat) :
    (diagFitWord f n p o).extractLsb' 16 1 = BitVec.ofNat 1 o := by
  apply BitVec.eq_of_toNat_eq
  rw [extract_diagFitWord, BitVec.toNat_ofNat]
  omega

/-- Bit by bit: where the mask has a 1 the word has a fixed 0. -/
@[simp] theorem diagFitWord_reserved (f n p o : Nat) : diagFitWord f n p o &&& 0xFFFE0E0C#32 = 0 := by
  apply BitVec.eq_of_getLsbD_eq
  intro i hi
  simp only [diagFitWord, BitVec.getLsbD_and]
  rw [BitVec.getLsbD_append (n := 30), BitVec.getLsbD_append (n := 28)]
  simp only [BitVec.getLsbD_append]
  interval_cases i <;> simp

@[simp] theorem diagCfBestWord_reserved (i j k iter : Nat) :
    diagCfBestWord i j k iter &&& 0xF8E0E0E0#32 = 0 := by
  apply BitVec.eq_of_getLsbD_eq
  intro b hb
  simp only [diagCfBestWord, BitVec.getLsbD_and]
  rw [BitVec.getLsbD_append (n := 27), BitVec.getLsbD_append (n := 24)]
  simp only [BitVec.getLsbD_append]
  interval_cases b <;> simp

@[simp] theorem diagASelWord_reserved (sel7 : Bool) : diagASelWord sel7 &&& 0xFFFFFFFE#32 = 0 := by
  cases sel7 <;> decide

/-! ## How many points and passes there are (10_state.md R106) -/

theorem addPoint_length_le (c : V3) (w : F32) (ps : List V4) (i : Nat) :
    (addPoint c w ps i).1.length ≤ ps.length + 1 := by
  induction ps generalizing i with
  | nil => simp [addPoint]
  | cons p ps ih =>
    rw [addPoint]
    split
    · simp
    · simpa using ih (i + 1)

theorem scanSlots_length_le (l : Latch) (mode : BuilderMode) (wa : Bool) (ss : List Slot)
    (pts : List V4) : (scanSlots l mode wa ss pts).1.length ≤ pts.length + ss.length := by
  induction ss generalizing pts with
  | nil => simp [scanSlots]
  | cons s ss ih =>
    rw [scanSlots, List.length_cons]
    split
    · have hadd := addPoint_length_le (pointOf (slotPixel l s)) (pixelWeight wa (slotPixel l s)) pts 0
      have hrest := ih (addPoint (pointOf (slotPixel l s)) (pixelWeight wa (slotPixel l s)) pts 0).1
      exact hrest.trans (by omega)
    · exact (ih pts).trans (by omega)

theorem colourSet_points_length_le (l : Latch) (mode : BuilderMode) (wa : Bool) :
    (colourSet l mode wa).points.length ≤ 16 := by
  simpa [colourSet, slots] using scanSlots_length_le l mode wa slots []

theorem passes_passes_le (p : Params) (draw : Nat) (ps : List V4) (left it : Nat)
    (earlier : List (List Nat)) (order : List Nat) (best : Best) :
    (passes p draw ps left it earlier order best).passes ≤ it + left := by
  induction left generalizing it earlier order best with
  | zero => rfl
  | succ left ih =>
    simp only [passes]
    split
    · simp
    · split
      · simp
      · exact (ih (it + 1) _ _ _).trans (by omega)

theorem clusterSearch_passes_le (p : Params) (draw : Nat) (ps : List V4) (axis : V3) :
    (clusterSearch p draw ps axis).passes ≤ 8 :=
  (passes_passes_le p draw ps 8 0 _ _ _).trans (by omega)

/-! ## How large an alpha error is (46_alpha_codec.md R704) -/

theorem range5Step_min_le (r : AlphaRange) (a : Option Nat) : (range5Step r a).min ≤ r.min := by
  cases a with
  | none => rfl
  | some v => simp only [range5Step]; split <;> omega

theorem range7Step_min_le (r : AlphaRange) (a : Option Nat) : (range7Step r a).min ≤ r.min := by
  cases a with
  | none => rfl
  | some v => simp only [range7Step]; split <;> omega

theorem foldl_min_le {f : AlphaRange → Option Nat → AlphaRange} (hf : ∀ r a, (f r a).min ≤ r.min)
    (as : List (Option Nat)) (r : AlphaRange) : (as.foldl f r).min ≤ r.min := by
  induction as generalizing r with
  | nil => rfl
  | cons a as ih => exact (ih (f r a)).trans (hf r a)

theorem fixRange_min_le (steps : Nat) (r : AlphaRange) : (fixRange steps r).min ≤ r.min := by
  simp only [fixRange]
  split_ifs <;> omega

theorem alphaRange5_min_le (as : List (Option Nat)) : (alphaRange5 as).min ≤ 255 :=
  (fixRange_min_le 5 _).trans (foldl_min_le range5Step_min_le as _)

theorem alphaRange7_min_le (as : List (Option Nat)) : (alphaRange7 as).min ≤ 255 :=
  (fixRange_min_le 7 _).trans (foldl_min_le range7Step_min_le as _)

theorem alphaNearestFrom_le (v : Nat) (codes : List Nat) (j : Nat) (best : Nat × Nat) :
    (alphaNearestFrom v codes j best).2 ≤ best.2 := by
  induction codes generalizing j best with
  | nil => rfl
  | cons code rest ih =>
    rw [alphaNearestFrom]
    split
    · next hlt => exact (ih _ _).trans hlt.le
    · exact ih _ _

theorem alphaDistance_le {a code : Nat} (ha : a ≤ 255) (hcode : code ≤ 255) :
    alphaDistance a code ≤ 65025 :=
  Nat.pow_le_pow_left (m := 255) (by omega) 2

/-- The first code alone bounds the error of a slot. -/
theorem alphaNearest_le {code : Nat} (hcode : code ≤ 255) (rest : List Nat) {a : Option Nat}
    (ha : ∀ v ∈ a, v ≤ 255) : (alphaNearest (code :: rest) a).2 ≤ 65025 := by
  cases a with
  | none => exact Nat.zero_le _
  | some v => exact (alphaNearestFrom_le _ _ _ _).trans (alphaDistance_le (ha v rfl) hcode)

theorem alphaList_le (l : Latch) : ∀ a ∈ alphaList l, ∀ v ∈ a, v ≤ 255 := by
  intro a ha v hv
  obtain ⟨s, -, rfl⟩ := List.mem_map.1 ha
  split at hv
  · rw [← Option.mem_some.1 hv]
    exact Nat.le_of_lt_succ (BitVec.isLt _)
  · cases hv

/-- 16 slots of at most 255^2 each. -/
theorem alphaError_le (l : Latch) {code : Nat} (hcode : code ≤ 255) (rest : List Nat) :
    alphaError (code :: rest) (alphaList l) ≤ 1040400 := by
  have hsum := List.sum_le_card_nsmul
    ((alphaList l).map fun a => (alphaNearest (code :: rest) a).2) 65025 (by
      simp only [List.mem_map]
      rintro _ ⟨a, ha, rfl⟩
      exact alphaNearest_le hcode rest (alphaList_le l a ha))
  simpa [alphaList, slots, alphaError] using hsum

theorem chooseAlpha_err5 (as : List (Option Nat)) :
    (chooseAlpha as).err5 = alphaError (alphaCodes5 (alphaRange5 as)) as := by
  simp only [chooseAlpha]
  split <;> rfl

theorem chooseAlpha_err7 (as : List (Option Nat)) :
    (chooseAlpha as).err7 = alphaError (alphaCodes7 (alphaRange7 as)) as := by
  simp only [chooseAlpha]
  split <;> rfl

theorem chooseAlpha_err5_le (l : Latch) : (chooseAlpha (alphaList l)).err5 ≤ 1040400 := by
  rw [chooseAlpha_err5]
  exact alphaError_le l (alphaRange5_min_le _) _

theorem chooseAlpha_err7_le (l : Latch) : (chooseAlpha (alphaList l)).err7 ≤ 1040400 := by
  rw [chooseAlpha_err7]
  exact alphaError_le l (alphaRange7_min_le _) _

/-! ## The diagnostic registers of a completed command -/

theorem diagOk_zero : diagOk Diag.zero = true := by decide

theorem toNat_ofNat_le {w n bound : Nat} (h : n ≤ bound) : (BitVec.ofNat w n).toNat ≤ bound := by
  rw [BitVec.toNat_ofNat]
  exact (Nat.mod_le _ _).trans h

theorem diagOk_singleColourHalf (p : Params) {cs : ColourSet} (h : cs.points.length ≤ 16) :
    diagOk (singleColourHalf p cs).diag = true := by
  have hn := toNat_ofNat_le (w := 5) h
  simp [diagOk, singleColourHalf, Diag.zero, -BitVec.toNat_ofNat, hn]

theorem diagOk_rangeHalf (p : Params) {cs : ColourSet} (h : cs.points.length ≤ 16) :
    diagOk (rangeHalf p cs).diag = true := by
  have hn := toNat_ofNat_le (w := 5) h
  simp [diagOk, rangeHalf, Diag.zero, -BitVec.toNat_ofNat, hn]

theorem diagOk_clusterHalf (p : Params) (draw : Nat) {cs : ColourSet} (h : cs.points.length ≤ 16) :
    diagOk (clusterHalf p draw cs).diag = true := by
  have hn := toNat_ofNat_le (w := 5) h
  have hp := toNat_ofNat_le (w := 4)
    (clusterSearch_passes_le p draw cs.points (principalAxis p cs.points))
  simp [diagOk, clusterHalf, Diag.zero, -BitVec.toNat_ofNat, hn, hp]

theorem diagOk_colourHalf (p : Params) (draw : Nat) (l : Latch) (mode : BuilderMode) (cf wa : Bool) :
    diagOk (colourHalf p draw l mode cf wa).diag = true := by
  have hlen := colourSet_points_length_le l mode wa
  simp only [colourHalf]
  split
  · exact diagOk_singleColourHalf p hlen
  · exact diagOk_rangeHalf p hlen
  · exact diagOk_clusterHalf p draw hlen

theorem diagOk_withAlphaDiag {d : Diag} (h : diagOk d = true) {c : AlphaChoice}
    (h5 : c.err5 ≤ 1040400) (h7 : c.err7 ≤ 1040400) : diagOk (withAlphaDiag c d) = true := by
  have h5' := toNat_ofNat_le (w := 32) h5
  have h7' := toNat_ofNat_le (w := 32) h7
  simp only [diagOk, Bool.and_eq_true, decide_eq_true_eq] at h ⊢
  obtain ⟨⟨⟨⟨⟨⟨⟨⟨hfit, hbest⟩, -⟩, hpoints⟩, hpasses⟩, hsingle⟩, hcluster⟩, -⟩, -⟩ := h
  exact ⟨⟨⟨⟨⟨⟨⟨⟨hfit, hbest⟩, by simp [withAlphaDiag]⟩, hpoints⟩, hpasses⟩, hsingle⟩, hcluster⟩, h5'⟩, h7'⟩

/-- The diagnostic registers that an encode writes. -/
theorem diagOk_of_isEncode {i : Instr} (hi : isEncode i = true) {s t : State}
    (h : exec i s = .next t) : diagOk t.diag = true := by
  cases i with
  | encDxt1 cf wa a1 =>
    obtain rfl := Host.Outcome.next.inj h
    exact diagOk_colourHalf _ _ _ _ _ _
  | encDxt3 cf wa =>
    obtain rfl := Host.Outcome.next.inj h
    exact diagOk_colourHalf _ _ _ _ _ _
  | encDxt5 cf wa =>
    obtain rfl := Host.Outcome.next.inj h
    exact diagOk_withAlphaDiag (diagOk_colourHalf _ _ _ _ _ _) (chooseAlpha_err5_le _)
      (chooseAlpha_err7_le _)
  | encAlphaExplicit =>
    obtain rfl := Host.Outcome.next.inj h
    exact diagOk_zero
  | encAlphaInterp =>
    obtain rfl := Host.Outcome.next.inj h
    exact diagOk_withAlphaDiag diagOk_zero (chooseAlpha_err5_le _) (chooseAlpha_err7_le _)
  | _ => cases hi

/-! ## Every event keeps the invariant -/

theorem consistent_iff (s : State) :
    consistent s = true ↔ statusOk s.status = true ∧ commandOk s = true ∧ diagOk s.diag = true ∧
      WellFormed.params s.params = true := by
  simp [consistent, and_assoc]

/-- The invariant speaks of five pieces of the state only. -/
theorem consistent_of_same {s t : State} (hs : consistent s = true) (hcmd : t.cmd = s.cmd)
    (hstatus : t.status = s.status) (hlatch : t.latch = s.latch) (hdiag : t.diag = s.diag)
    (hparams : t.params = s.params) : consistent t = true := by
  simpa [consistent, commandOk, hcmd, hstatus, hlatch, hdiag, hparams] using hs

/-- What the complete step of any command leaves in the diagnostic registers: what was there, zeros,
or what the encode writes. -/
theorem diagOk_exec {i : Instr} {s t : State} (hs : diagOk s.diag = true) (h : exec i s = .next t) :
    diagOk t.diag = true := by
  obtain ⟨-, he, -⟩ | ⟨-, v, he, -⟩ | ⟨-, p, he, -⟩ | ⟨hi, -⟩ :=
    exec_classes (s1 := s) (s2 := s) ⟨rfl, rfl, rfl⟩ i
  · cases he.symm.trans h
    exact hs
  · cases he.symm.trans h
    exact diagOk_zero
  · cases he.symm.trans h
    exact diagOk_zero
  · exact diagOk_of_isEncode hi h

theorem consistent_exec {i : Instr} {s t : State} (hs : consistent s = true)
    (h : exec i s = .next t) : consistent t = true := by
  rw [consistent_iff] at hs ⊢
  obtain ⟨hstatus, hcmd, hdiag, hparams⟩ := hs
  obtain ⟨hcmd', hparams', hstatus'⟩ := exec_frame h
  simp only [statusOk, commandOk, Bool.and_eq_true] at hstatus hcmd
  refine ⟨?_, ?_, diagOk_exec hdiag h, hparams' ▸ hparams⟩
  · simpa [statusOk, hstatus'] using hstatus.2
  · simpa [commandOk, hstatus', hcmd'] using hcmd.1

theorem consistent_engineStep {s t : State} (hs : consistent s = true)
    (h : engineStep s = .next t) : consistent t = true := by
  obtain ⟨-, rfl⟩ | ⟨-, i, -, he⟩ := engineStep_cases h
  · exact hs
  · exact consistent_exec hs he

/-- A refusal: code 3 leaves DONE, the other codes are raised outside BUSY only. -/
theorem consistent_raiseCommandError {s : State} (hs : consistent s = true) {code : BitVec 4}
    (hcode : code.toNat ≤ 3) (hbusy : code = errBusy ∨ s.status.busy = false) :
    consistent (raiseCommandError code s) = true := by
  rw [consistent_iff] at hs ⊢
  obtain ⟨hstatus, hcmd, hdiag, hparams⟩ := hs
  refine ⟨?_, hcmd, hdiag, hparams⟩
  simp only [statusOk, Bool.and_eq_true] at hstatus
  obtain rfl | hbusy := hbusy
  · simpa [statusOk, errBusy] using hstatus.1
  · simp [statusOk, hbusy, hcode]

theorem consistent_accept {s : State} (hs : consistent s = true) {w : Word} {i : Instr}
    (hw : decodeWord w = .ok i) : consistent (accept w s) = true := by
  rw [consistent_iff] at hs ⊢
  obtain ⟨-, -, hdiag, hparams⟩ := hs
  exact ⟨rfl, by simp [commandOk, isCommand, hw, latchOf], hdiag, hparams⟩

theorem errcodeOf_le (err : DecodeError) : (errcodeOf err).toNat ≤ 3 := by
  cases err <;> decide

theorem consistent_issue {s : State} (hs : consistent s = true) (w : Word) :
    consistent (issue w s) = true := by
  obtain ⟨-, he⟩ | ⟨hb, err, -, he⟩ | ⟨-, i, hi, he⟩ := issue_cases w s
  · exact he ▸ consistent_raiseCommandError hs (by decide) (.inl rfl)
  · exact he ▸ consistent_raiseCommandError hs (errcodeOf_le err) (.inr hb)
  · exact he ▸ consistent_accept hs hi

theorem consistent_hostRead {off size : Nat} {s t : State} (hs : consistent s = true)
    (h : hostRead off size s = .next t) : consistent t = true := by
  obtain ⟨-, ⟨-, -, rfl⟩ | ⟨-, rfl⟩⟩ := hostRead_cases h <;>
    exact consistent_of_same hs rfl rfl rfl rfl rfl

theorem consistent_hostWrite {off size : Nat} {v : Word} {s t : State} (hs : consistent s = true)
    (h : hostWrite off size v s = .next t) : consistent t = true := by
  obtain ⟨-, ⟨-, rfl⟩ | ⟨-, rfl⟩⟩ := hostWrite_cases h
  · exact consistent_issue hs v
  · exact consistent_of_same hs (by simp) (by simp) (by simp) (by simp) (by simp)

theorem consistent_setInputs {s : State} (hs : consistent s = true) (es : List Event) :
    consistent (setInputs es s) = true :=
  consistent_of_same hs rfl rfl rfl rfl rfl

/-- Reset restores every piece but the parameters; its CMD word is NOP's. -/
theorem consistent_platformReset {s : State} (hs : consistent s = true) :
    consistent (platformReset s) = true := by
  rw [consistent_iff] at hs ⊢
  obtain ⟨-, -, -, hparams⟩ := hs
  have hcmd : commandOk State.reset = true := by decide
  exact ⟨rfl, hcmd, diagOk_zero, hparams⟩

/-- Settles O3, by the event the step takes. -/
theorem everyStepKeepsConsistency : Obligations.EveryStepKeepsConsistency := by
  intro s t hs h
  obtain ⟨-, he⟩ | ⟨rest, -, he⟩ | ⟨off, size, rest, -, hr⟩ | ⟨off, size, v, rest, -, hw⟩ |
    ⟨rest, -, rfl⟩ := step_cases h
  · exact consistent_engineStep hs he
  · exact consistent_engineStep (consistent_setInputs hs rest) he
  · exact consistent_hostRead (consistent_setInputs hs rest) hr
  · exact consistent_hostWrite (consistent_setInputs hs rest) hw
  · exact consistent_platformReset (consistent_setInputs hs rest)

end Sys2Proof.Invariant
end

section
/-! SUPPORT. The register window by offset (10_state.md R101 to R121, 20_memory.md R200 to R207): which
register stands where, what a write leaves, and which events move BUSY. -/

namespace Sys2Proof.Window

open Sys2Proof Sys2Proof.Machine Sys2Proof.Statements

/-! ## Offsets and registers (10_state.md R101) -/

theorem access_iff (off size : Nat) :
    WellFormed.access off size = true ↔ size = 4 ∧ off % 4 = 0 ∧ off < 0x2000 := by
  simp [WellFormed.access, and_assoc]

theorem regAt_pixIn (i : Fin 16) : regAt (0x040 + 4 * i.val) = .pixIn i := by
  revert i; decide

theorem regAt_pixOut (i : Fin 16) : regAt (0x0C0 + 4 * i.val) = .pixOut i := by
  revert i; decide

theorem regAt_blkIn (m : Fin 4) : regAt (0x080 + 4 * m.val) = .blkIn m := by
  revert m; decide

theorem regAt_blkOut (m : Fin 4) : regAt (0x100 + 4 * m.val) = .blkOut m := by
  revert m; decide

/-- The first 16 words of the window are a table. -/
theorem regAt_control {off : Nat} (h : off < 0x040) :
    ∃ k : Fin 16, off / 4 = k.val ∧ regAt off = regAt (4 * k.val) := by
  refine ⟨⟨off / 4, by omega⟩, rfl, ?_⟩
  have h' : 4 * (off / 4) < 0x040 := by omega
  rw [regAt, if_pos h, regAt, if_pos h', Nat.mul_div_cancel_left _ (by decide)]

/-- The rows of R101's table: the register at an offset, and the words of the window it stands for. -/
inductive WindowRow (off : Nat) : Reg → Prop where
  | control (k : Fin 16) (h : off / 4 = k.val) : WindowRow off (regAt (4 * k.val))
  | pixIn (i : Fin 16) (h : off / 4 = 0x010 + i.val) : WindowRow off (.pixIn i)
  | blkIn (m : Fin 4) (h : off / 4 = 0x020 + m.val) : WindowRow off (.blkIn m)
  | va (l : Fin 4) (h : off / 4 = 0x024 + l.val) : WindowRow off (.va l)
  | vb (l : Fin 4) (h : off / 4 = 0x028 + l.val) : WindowRow off (.vb l)
  | vc (l : Fin 4) (h : off / 4 = 0x02C + l.val) : WindowRow off (.vc l)
  | pixOut (i : Fin 16) (h : off / 4 = 0x030 + i.val) : WindowRow off (.pixOut i)
  | blkOut (m : Fin 4) (h : off / 4 = 0x040 + m.val) : WindowRow off (.blkOut m)
  | vr (l : Fin 4) (h : off / 4 = 0x044 + l.val) : WindowRow off (.vr l)
  | reserved (h : 0x120 ≤ off ∧ off < 0x1000) : WindowRow off .reserved
  | lut (t : Fin 2) (v : Fin 256) (o : Fin 2) (h : 0x1000 ≤ off) : WindowRow off (.lut t v o)

/-- The number of a register within its array, which starts at word `first`. -/
theorem array_index {off first n : Nat} [NeZero n] (hlow : 4 * first ≤ off)
    (hhigh : off < 4 * first + 4 * n) :
    off / 4 = first + (Fin.ofNat n ((off - 4 * first) / 4)).val := by
  rw [Fin.val_ofNat, Nat.mod_eq_of_lt (by omega)]
  omega

theorem windowRow_regAt (off : Nat) : WindowRow off (regAt off) := by
  by_cases h0 : off < 0x040
  · obtain ⟨k, hk, hreg⟩ := regAt_control h0
    exact hreg ▸ .control k hk
  rw [regAt, if_neg h0]
  by_cases h1 : off < 0x080
  · rw [if_pos h1]
    exact .pixIn _ (array_index (by omega) (by omega))
  rw [if_neg h1]
  by_cases h2 : off < 0x090
  · rw [if_pos h2]
    exact .blkIn _ (array_index (by omega) (by omega))
  rw [if_neg h2]
  by_cases h3 : off < 0x0A0
  · rw [if_pos h3]
    exact .va _ (array_index (by omega) (by omega))
  rw [if_neg h3]
  by_cases h4 : off < 0x0B0
  · rw [if_pos h4]
    exact .vb _ (array_index (by omega) (by omega))
  rw [if_neg h4]
  by_cases h5 : off < 0x0C0
  · rw [if_pos h5]
    exact .vc _ (array_index (by omega) (by omega))
  rw [if_neg h5]
  by_cases h6 : off < 0x100
  · rw [if_pos h6]
    exact .pixOut _ (array_index (by omega) (by omega))
  rw [if_neg h6]
  by_cases h7 : off < 0x110
  · rw [if_pos h7]
    exact .blkOut _ (array_index (by omega) (by omega))
  rw [if_neg h7]
  by_cases h8 : off < 0x120
  · rw [if_pos h8]
    exact .vr _ (array_index (by omega) (by omega))
  rw [if_neg h8]
  by_cases h9 : off < 0x1000
  · rw [if_pos h9]
    exact .reserved (by omega)
  rw [if_neg h9]
  exact .lut _ _ _ (by omega)

theorem regAt_eq_cmd_iff (off : Nat) : regAt off = .cmd ↔ off < 4 := by
  have hrow := windowRow_regAt off
  generalize regAt off = r at hrow ⊢
  cases hrow with
  | control k hk =>
    have htable : ∀ k : Fin 16, regAt (4 * k.val) = .cmd ↔ k.val = 0 := by decide
    rw [htable]
    omega
  | _ => simp only [reduceCtorEq, false_iff]; omega

/-- The registers whose reads are open while BUSY, by offset (20_memory.md R206). -/
theorem openWhileBusy_regAt (off : Nat) :
    openWhileBusy (regAt off) = true ↔ (0x020 ≤ off ∧ off < 0x040) ∨ (0x0C0 ≤ off ∧ off < 0x120) := by
  have hrow := windowRow_regAt off
  generalize regAt off = r at hrow ⊢
  cases hrow with
  | control k hk =>
    have htable : ∀ k : Fin 16, openWhileBusy (regAt (4 * k.val)) = true ↔ 8 ≤ k.val := by decide
    rw [htable]
    omega
  | _ => simp only [openWhileBusy, reduceCtorEq, true_iff, false_iff]; omega

/-- The offset of a read-write register other than CMD. -/
def inputOffset : Reg → Option Nat
  | .valid => some 0x008
  | .pixIn i => some (0x040 + 4 * i.val)
  | .blkIn m => some (0x080 + 4 * m.val)
  | .va l => some (0x090 + 4 * l.val)
  | .vb l => some (0x0A0 + 4 * l.val)
  | .vc l => some (0x0B0 + 4 * l.val)
  | _ => none

theorem inputOffset_regAt (off : Nat) :
    inputOffset (regAt off) =
      if off / 4 * 4 = 0x008 ∨ (0x040 ≤ off ∧ off < 0x0C0) then some (off / 4 * 4) else none := by
  have hrow := windowRow_regAt off
  generalize regAt off = r at hrow ⊢
  cases hrow with
  | control k hk =>
    have htable : ∀ k : Fin 16, inputOffset (regAt (4 * k.val)) =
      if k.val * 4 = 0x008 then some (k.val * 4) else none := by decide
    rw [htable, hk]
    simp only [show ¬ 0x040 ≤ off by omega, false_and, or_false]
  | pixIn | blkIn | va | vb | vc =>
    rw [if_pos (by omega), inputOffset]
    congr 1
    omega
  | _ => exact (if_neg (by omega)).symm

/-! ## What a write leaves (20_memory.md R204) -/

theorem setBufferWord_getElem (b : Block16) (m n : Fin 4) (v : Word) {k : Nat} (hk : k < 4) :
    (setBufferWord b m v)[4 * n.val + k] = if m = n then byteOfWord v k else b[4 * n.val + k] := by
  have hdiv : (4 * n.val + k) / 4 = n.val := by omega
  have hmod : (4 * n.val + k) % 4 = k := by omega
  simp [setBufferWord, hdiv, hmod, Fin.ext_iff, eq_comm]

/-- A word is its four bytes. -/
theorem wordOfBytes_byteOfWord (v : Word) :
    wordOfBytes (byteOfWord v 0) (byteOfWord v 1) (byteOfWord v 2) (byteOfWord v 3) = v := by
  apply BitVec.eq_of_toNat_eq
  rw [wordOfBytes_toNat]
  simp only [byteOfWord, BitVec.extractLsb'_toNat, Nat.shiftRight_eq_div_pow]
  omega

theorem bufferWord_setBufferWord (b : Block16) (m n : Fin 4) (v : Word) :
    bufferWord (setBufferWord b m v) n = if m = n then v else bufferWord b n := by
  have h0 : (setBufferWord b m v)[4 * n.val] = _ := setBufferWord_getElem b m n v (k := 0) (by decide)
  have h1 := setBufferWord_getElem b m n v (k := 1) (by decide)
  have h2 := setBufferWord_getElem b m n v (k := 2) (by decide)
  have h3 := setBufferWord_getElem b m n v (k := 3) (by decide)
  rw [bufferWord, h0, h1, h2, h3]
  split
  · exact wordOfBytes_byteOfWord v
  · rfl

theorem lane_setLane (a : V4) (l m : Fin 4) (v : F32) :
    lane (setLane a l v) m = if l = m then v else lane a m := by
  fin_cases l <;> fin_cases m <;> rfl

theorem setWidth_setWidth_eq_and (v : Word) : (v.setWidth 16).setWidth 32 = v &&& 0x0000FFFF#32 := by
  apply BitVec.eq_of_toNat_eq
  have hmask : v.toNat &&& 0x0000FFFF = v.toNat % 2 ^ 16 := Nat.and_two_pow_sub_one_eq_mod _ 16
  simp only [BitVec.toNat_and, BitVec.toNat_setWidth, BitVec.toNat_ofNat, Nat.reduceMod,
    Nat.reducePow, hmask]
  omega

/-- VALID holds 16 bits; the other read-write registers hold the word. -/
theorem readReg_writeReg_same (v : Word) (s : State) {r : Reg} (h : (inputOffset r).isSome) :
    readReg (writeReg v s r) r = if r = .valid then v &&& 0x0000FFFF else v := by
  cases r with
  | valid => exact setWidth_setWidth_eq_and v
  | pixIn i => simp [readReg, writeReg]
  | blkIn m => simp [readReg, writeReg, bufferWord_setBufferWord]
  | va l => simp [readReg, writeReg, lane_setLane]
  | vb l => simp [readReg, writeReg, lane_setLane]
  | vc l => simp [readReg, writeReg, lane_setLane]
  | _ => cases h

theorem readReg_writeReg_ne (v : Word) (s : State) {r r' : Reg} (h : r ≠ r') :
    readReg (writeReg v s r) r' = readReg s r' := by
  cases r with
  | valid => cases r' with
    | valid => exact absurd rfl h
    | _ => rfl
  | pixIn i => cases r' with
    | pixIn j =>
      have hij : i.val ≠ j.val := fun hij => h (congrArg _ (Fin.ext hij))
      exact Vector.getElem_set_ne i.isLt j.isLt hij
    | _ => simp only [readReg, writeReg]
  | blkIn m => cases r' with
    | blkIn n =>
      exact (bufferWord_setBufferWord s.blkIn m n v).trans (if_neg fun hmn => h (congrArg _ hmn))
    | _ => simp only [readReg, writeReg]
  | va l => cases r' with
    | va m => exact (lane_setLane s.va l m v).trans (if_neg fun hlm => h (congrArg _ hlm))
    | _ => simp only [readReg, writeReg]
  | vb l => cases r' with
    | vb m => exact (lane_setLane s.vb l m v).trans (if_neg fun hlm => h (congrArg _ hlm))
    | _ => simp only [readReg, writeReg]
  | vc l => cases r' with
    | vc m => exact (lane_setLane s.vc l m v).trans (if_neg fun hlm => h (congrArg _ hlm))
    | _ => simp only [readReg, writeReg]
  | _ => rfl

/-! ## Host accesses by offset -/

theorem hostRead_current {off : Nat} {s : State} (halign : off % 4 = 0) (hlt : off < 0x2000)
    (hopen : (s.status.busy && openWhileBusy (regAt off)) = false) :
    hostRead off 4 s = .next (setReadData (readReg s (regAt off)) s) := by
  have hacc := (access_iff off 4).2 ⟨rfl, halign, hlt⟩
  rw [hostRead, if_pos hacc, hopen, if_neg Bool.false_ne_true]

theorem hostWrite_register {off : Nat} (v : Word) {s : State} (halign : off % 4 = 0)
    (hlt : off < 0x2000) (hcmd : regAt off ≠ .cmd) :
    hostWrite off 4 v s = .next (writeReg v s (regAt off)) := by
  obtain ⟨t, ht⟩ := hostWrite_defined (v := v) (s := s) ((access_iff off 4).2 ⟨rfl, halign, hlt⟩)
  obtain ⟨-, ⟨hr, -⟩ | ⟨-, rfl⟩⟩ := hostWrite_cases ht
  · exact absurd hr hcmd
  · exact ht

/-! ## The values at each offset (10_state.md R102 to R119) -/

theorem statusWord_toNat (st : Status) :
    (statusWord st).toNat = st.busy.toNat + 2 * st.done.toNat + 256 * st.errcode.toNat := by
  rw [statusWord]
  repeat rw [BitVec.toNat_append, ← Nat.shiftLeft_add_eq_or_of_lt (BitVec.isLt _)]
  simp only [BitVec.ofNat_eq_ofNat, BitVec.toNat_ofNat, BitVec.toNat_ofBool, Nat.shiftLeft_eq]
  omega

theorem bufferWord_toNat (b : Block16) (m : Fin 4) : (bufferWord b m).toNat = bufferNat b m :=
  wordOfBytes_toNat _ _ _ _

/-- Settles O31: the open reads are those of the two ranges left out, and each offset is a fixed row of
the register map. -/
theorem readsGiveTheCurrentRegister : Obligations.ReadsGiveTheCurrentRegister := by
  refine ⟨fun off s halign hlt h => ?_, fun s => ?_⟩
  · refine hostRead_current halign hlt ?_
    have hrange := openWhileBusy_regAt off
    obtain hbusy | h := h
    · rw [hbusy, Bool.false_and]
    · rw [Bool.and_eq_false_iff, Bool.eq_false_iff (b := openWhileBusy _), Ne, hrange]
      omega
  · refine ⟨rfl, statusWord_toNat s.status, ?_, rfl, rfl, rfl, rfl, rfl, rfl, rfl, rfl, rfl,
      fun i => ?_, fun m => ?_, ?_⟩
    · have hvalid : (s.valid.setWidth 32).toNat = s.valid.toNat := by
        rw [BitVec.toNat_setWidth]
        omega
      exact hvalid
    · rw [regAt_pixIn, regAt_pixOut]
      exact ⟨rfl, rfl⟩
    · rw [regAt_blkIn, regAt_blkOut]
      exact ⟨bufferWord_toNat s.blkIn m, bufferWord_toNat s.blkOut m⟩
    · simp only [List.forall_mem_cons, List.not_mem_nil]
      exact ⟨⟨rfl, rfl, rfl, rfl⟩, ⟨rfl, rfl, rfl, rfl⟩, ⟨rfl, rfl, rfl, rfl⟩, ⟨rfl, rfl, rfl, rfl⟩,
        nofun⟩

/-- Settles O32: the written register stands at one offset only, so every byte outside its word belongs
to another register. -/
theorem writtenInputsReadBack : Obligations.WrittenInputsReadBack := by
  intro off v s halign hoff
  have hword : off / 4 * 4 = off := by omega
  have hinput : inputOffset (regAt off) = some off := by
    rw [inputOffset_regAt, hword, if_pos hoff]
  have hcmd : regAt off ≠ .cmd := by
    rw [Ne, regAt_eq_cmd_iff]
    omega
  refine ⟨_, hostWrite_register v halign (by omega) hcmd, ?_, fun off' _ hother => ?_, by simp,
    by simp⟩
  · have hvalid : regAt off = .valid ↔ off = 0x008 := by
      refine ⟨fun hr => ?_, fun h => h ▸ rfl⟩
      rw [hr] at hinput
      exact (Option.some.inj hinput).symm
    simp only [readReg_writeReg_same v s (Option.isSome_of_eq_some hinput), hvalid]
  · have hne : regAt off ≠ regAt (off' / 4 * 4) := by
      intro heq
      rw [heq, inputOffset_regAt] at hinput
      split at hinput
      · have := Option.some.inj hinput
        omega
      · cases hinput
    rw [windowByte, windowByte, readReg_writeReg_ne v s hne]

end Sys2Proof.Window
end

section
/-! SUPPORT. Which events move BUSY (60_exceptions.md R901, R903, 70_reset_and_hazards.md R950). -/

namespace Sys2Proof.Busy

open Sys2Proof Sys2Proof.Machine Sys2Proof.Results Sys2Proof.Window

/-- The engine's own move leaves BUSY clear: it was so, or a command completed. -/
theorem engineStep_busy {s t : State} (h : engineStep s = .next t) : t.status.busy = false := by
  obtain ⟨hb, rfl⟩ | ⟨-, i, -, he⟩ := engineStep_cases h
  · exact hb
  · obtain ⟨-, -, hstatus⟩ := exec_frame he
    rw [hstatus]

theorem hostRead_status {off size : Nat} {s t : State} (h : hostRead off size s = .next t) :
    t.status = s.status := by
  obtain ⟨-, ⟨-, -, rfl⟩ | ⟨-, rfl⟩⟩ := hostRead_cases h <;> rfl

theorem hostWrite_sets_busy {off size : Nat} {v : Word} {s t : State}
    (h : hostWrite off size v s = .next t) (hs : s.status.busy = false) (ht : t.status.busy = true) :
    off = 0x000 ∧ size = 4 ∧ ∃ i, decodeWord v = .ok i ∧ t.cmd = v := by
  obtain ⟨hacc, ⟨hr, rfl⟩ | ⟨-, rfl⟩⟩ := hostWrite_cases h
  · obtain ⟨hsize, halign, -⟩ := (access_iff off size).1 hacc
    have hoff := (regAt_eq_cmd_iff off).1 hr
    refine ⟨by omega, hsize, ?_⟩
    obtain ⟨hb, -⟩ | ⟨-, err, -, he⟩ | ⟨-, i, hi, he⟩ := issue_cases v s
    · simp [hs] at hb
    · simp [he, hs] at ht
    · exact ⟨i, hi, by simp [he]⟩
  · simp [hs] at ht

theorem hostWrite_keeps_busy {off size : Nat} {v : Word} {s t : State}
    (h : hostWrite off size v s = .next t) (hs : s.status.busy = true) : t.status.busy = true := by
  obtain ⟨-, ⟨-, rfl⟩ | ⟨-, rfl⟩⟩ := hostWrite_cases h
  · obtain ⟨-, he⟩ | ⟨hb, -⟩ | ⟨hb, -⟩ := issue_cases v s
    · simpa [he] using hs
    · simp [hs] at hb
    · simp [hs] at hb
  · simpa using hs

/-- Settles O13, by the event the step takes. -/
theorem onlyIssueCompletionAndResetMoveBusy : Obligations.OnlyIssueCompletionAndResetMoveBusy := by
  intro s t h
  obtain ⟨hi, he⟩ | ⟨rest, hi, he⟩ | ⟨off, size, rest, hi, hr⟩ | ⟨off, size, v, rest, hi, hw⟩ |
    ⟨rest, hi, rfl⟩ := step_cases h
  · exact ⟨fun _ ht => by simp [engineStep_busy he] at ht, fun _ _ => .inl hi⟩
  · exact ⟨fun _ ht => by simp [engineStep_busy he] at ht, fun _ _ => by simp [hi]⟩
  · have hsame := hostRead_status hr
    rw [setInputs_status] at hsame
    exact ⟨fun hs ht => by simp [hsame, hs] at ht, fun hs ht => by simp [hsame, hs] at ht⟩
  · refine ⟨fun hs ht => ?_, fun hs ht => ?_⟩
    · obtain ⟨rfl, rfl, i, hdec, hcmd⟩ := hostWrite_sets_busy hw hs ht
      exact ⟨v, rest, i, hi, hdec, hcmd⟩
    · simp [hostWrite_keeps_busy hw hs] at ht
  · exact ⟨fun _ ht => by simp [State.reset] at ht, fun _ _ => by simp [hi]⟩

end Sys2Proof.Busy
end

section
/-! SUPPORT. Which accesses are refused, what a defined read returns and which writes are ignored
(20_memory.md R201 to R206, 10_state.md R121). -/

namespace Sys2Proof.Access

open Sys2Proof Sys2Proof.Machine Sys2Proof.Window

/-! ## Undefined accesses (20_memory.md R201) -/

theorem hostRead_refused {off size : Nat} (h : ¬ WellFormed.access off size = true) (s : State) :
    hostRead off size s = .refused .undefinedAccess := by
  rw [hostRead, if_neg h]

theorem hostWrite_refused {off size : Nat} (h : ¬ WellFormed.access off size = true) (v : Word)
    (s : State) : hostWrite off size v s = .refused .undefinedAccess := by
  rw [hostWrite, if_neg h]

/-! ## Reads (20_memory.md R204, R206) -/

/-- A read that the spec leaves open returns the next free value (log 4). -/
theorem hostRead_open {off : Nat} {s : State} (halign : off % 4 = 0) (hlt : off < 0x2000)
    (hbusy : s.status.busy = true) (hopen : openWhileBusy (regAt off) = true) :
    hostRead off 4 s =
      .next (setFreeReads (s.freeReads + 1) (setReadData (Config.busyRead s.freeReads) s)) := by
  have hacc := (access_iff off 4).2 ⟨rfl, halign, hlt⟩
  rw [hostRead, if_pos hacc, hbusy, hopen, Bool.and_self, if_pos rfl]

/-- Settles O30: an undefined access fails the guard of both accesses, and a defined read has two
outcomes. -/
theorem hostReadsHaveNoSideEffect : Obligations.HostReadsHaveNoSideEffect := by
  refine ⟨fun off size s h => ?_, fun off s halign hlt => ?_⟩
  · have hacc : ¬ WellFormed.access off size = true := by rwa [access_iff]
    exact ⟨hostRead_refused hacc s, fun v => hostWrite_refused hacc v s⟩
  · obtain ⟨t, ht⟩ := hostRead_defined (s := s) ((access_iff off 4).2 ⟨rfl, halign, hlt⟩)
    obtain ⟨-, ⟨-, -, rfl⟩ | ⟨-, rfl⟩⟩ := hostRead_cases ht
    · exact ⟨_, _, ht⟩
    · exact ⟨_, s.freeReads, ht⟩

/-- Settles O35: the two ranges hold exactly the registers left open while BUSY. -/
theorem busyOutputReadsDrawAFreeValue : Obligations.BusyOutputReadsDrawAFreeValue :=
  fun off _ hbusy halign hoff =>
    hostRead_open halign (by omega) hbusy ((openWhileBusy_regAt off).2 hoff)

/-! ## Ignored writes and reserved space (10_state.md R101, R121) -/

/-- A register that is no input keeps the state as it is when it is written. -/
theorem writeReg_of_not_input (v : Word) (s : State) {r : Reg} (h : inputOffset r = none) :
    writeReg v s r = s := by
  cases r with
  | valid | pixIn | blkIn | va | vb | vc => cases h
  | _ => rfl

theorem regAt_eq_reserved_iff (off : Nat) :
    regAt off = .reserved ↔ (0x010 ≤ off ∧ off < 0x020) ∨ (0x120 ≤ off ∧ off < 0x1000) := by
  have hrow := windowRow_regAt off
  generalize regAt off = r at hrow ⊢
  cases hrow with
  | control k hk =>
    have htable : ∀ k : Fin 16, regAt (4 * k.val) = .reserved ↔ 4 ≤ k.val ∧ k.val < 8 := by decide
    rw [htable]
    omega
  | reserved h => exact iff_of_true rfl (.inr h)
  | _ => simp only [reduceCtorEq, false_iff]; omega

/-- Settles O33: the offsets written are neither CMD's nor an input's, and the offsets read are those of
the reserved register. -/
theorem readOnlyAndReservedOffsetsIgnoreWrites :
    Obligations.ReadOnlyAndReservedOffsetsIgnoreWrites := by
  refine fun off v s halign => ⟨fun hoff => ?_, fun hoff => ?_⟩
  · have hcmd : regAt off ≠ .cmd := by
      rw [Ne, regAt_eq_cmd_iff]
      omega
    have hinput : inputOffset (regAt off) = none := by
      rw [inputOffset_regAt, if_neg (by omega)]
    rw [hostWrite_register v halign (by omega) hcmd, writeReg_of_not_input v s hinput]
  · rw [(regAt_eq_reserved_iff off).2 hoff, readReg]

end Sys2Proof.Access
end

section
/-! SUPPORT. Progress: a consistent machine answers every event the spec defines and takes it off the
pending ones (20_memory.md R201, 60_exceptions.md R903, R904). -/

namespace Sys2Proof.Progress

open Sys2Proof Sys2Proof.Machine Sys2Proof.Safety Sys2Proof.Invariant

/-! ## What an event leaves pending -/

theorem exec_inputs {i : Instr} {s t : State} (h : exec i s = .next t) : t.inputs = s.inputs := by
  obtain ⟨-, he⟩ | ⟨v, he⟩ | ⟨p, he⟩ | ⟨b, d, n, he⟩ := exec_cases i s <;>
    cases he.symm.trans h <;> rfl

theorem engineStep_inputs {s t : State} (h : engineStep s = .next t) : t.inputs = s.inputs := by
  obtain ⟨-, rfl⟩ | ⟨-, i, -, he⟩ := engineStep_cases h
  · rfl
  · exact exec_inputs he

theorem issue_inputs (w : Word) (s : State) : (issue w s).inputs = s.inputs := by
  obtain ⟨-, he⟩ | ⟨-, err, -, he⟩ | ⟨-, i, -, he⟩ := issue_cases w s <;> simp [he]

theorem hostRead_inputs {off size : Nat} {s t : State} (h : hostRead off size s = .next t) :
    t.inputs = s.inputs := by
  obtain ⟨-, ⟨-, -, rfl⟩ | ⟨-, rfl⟩⟩ := hostRead_cases h <;> rfl

theorem hostWrite_inputs {off size : Nat} {v : Word} {s t : State}
    (h : hostWrite off size v s = .next t) : t.inputs = s.inputs := by
  obtain ⟨-, ⟨-, rfl⟩ | ⟨-, rfl⟩⟩ := hostWrite_cases h
  · exact issue_inputs v s
  · exact writeReg_inputs v s _

/-- A step takes the first pending event, if there is one, and no other. -/
theorem step_inputs {s t : State} (h : step s = .next t) : t.inputs = s.inputs.tail := by
  obtain ⟨hi, he⟩ | ⟨rest, hi, he⟩ | ⟨off, size, rest, hi, hr⟩ | ⟨off, size, v, rest, hi, hw⟩ |
    ⟨rest, hi, rfl⟩ := step_cases h
  · rw [engineStep_inputs he, hi, List.tail_nil]
  · rw [engineStep_inputs he, hi, List.tail_cons, setInputs_inputs]
  · rw [hostRead_inputs hr, hi, List.tail_cons, setInputs_inputs]
  · rw [hostWrite_inputs hw, hi, List.tail_cons, setInputs_inputs]
  · rw [platformReset_inputs, hi, List.tail_cons, setInputs_inputs]

/-! ## Every defined event is answered -/

theorem exec_defined (i : Instr) (s : State) : ∃ t, exec i s = .next t := by
  obtain ⟨-, he⟩ | ⟨v, he⟩ | ⟨p, he⟩ | ⟨b, d, n, he⟩ := exec_cases i s <;> exact ⟨_, he⟩

theorem isCommand_iff (w : Word) : isCommand w = true ↔ ∃ i, decodeWord w = .ok i := by
  unfold isCommand
  cases decodeWord w <;> simp

/-- While BUSY a consistent machine's latch holds a command (10_state.md R122). -/
theorem latch_decodes {s : State} (hs : consistent s = true) (hb : s.status.busy = true) :
    ∃ i, decodeWord s.latch.cmd = .ok i := by
  obtain ⟨-, hcmd, -, -⟩ := (consistent_iff s).1 hs
  simp only [commandOk, hb, Bool.not_true, Bool.false_or, Bool.and_eq_true, beq_iff_eq] at hcmd
  obtain ⟨hdec, hlatch⟩ := hcmd
  exact (isCommand_iff _).1 (hlatch ▸ hdec)

/-- The engine's fault is out of a consistent machine's reach (60_exceptions.md R904). -/
theorem engineStep_defined {s : State} (hs : consistent s = true) : ∃ t, engineStep s = .next t := by
  cases hb : s.status.busy with
  | false => exact ⟨s, by simp [engineStep, hb]⟩
  | true =>
    obtain ⟨i, hi⟩ := latch_decodes hs hb
    simpa [engineStep, hb, hi] using exec_defined i s

theorem step_defined {s : State} (hs : consistent s = true) (hok : inputsOk s = true) :
    ∃ t, step s = .next t := by
  unfold step
  unfold inputsOk at hok
  cases hi : s.inputs with
  | nil => exact engineStep_defined hs
  | cons e rest =>
    have hfirst : eventOk e = true := List.all_eq_true.1 hok e (hi ▸ List.mem_cons_self)
    cases e with
    | read off size => exact hostRead_defined hfirst
    | write off size v => exact hostWrite_defined hfirst
    | complete => exact engineStep_defined (consistent_setInputs hs rest)
    | reset => exact ⟨_, rfl⟩

/-- What is left pending after a step was pending before it. -/
theorem inputsOk_step {s t : State} (hok : inputsOk s = true) (h : step s = .next t) :
    inputsOk t = true := by
  rw [inputsOk, List.all_eq_true] at hok ⊢
  rw [step_inputs h]
  exact fun e he => hok e (List.mem_of_mem_tail he)

/-- Settles O4, by progress and the pending events a step leaves. -/
theorem definedEventsNeverStopTheMachine : Obligations.DefinedEventsNeverStopTheMachine := by
  intro s hs hok
  obtain ⟨t, ht⟩ := step_defined hs hok
  exact ⟨t, ht, inputsOk_step hok ht, step_inputs ht⟩

end Sys2Proof.Progress
end

section
/-! SUPPORT. The decoder against the encoder (30_encoding.md R300 to R304): the opcode of a word and
the mask of that opcode decide what the word is, and the flag bits the mask leaves free are the
command's own. -/

namespace Sys2Proof.Encoding

open Sys2Proof Sys2Proof.Statements Sys2Proof.Laws

/-! ## The fields of a word -/

theorem opcField_setWidth (w : Word) : (opcField w).setWidth 32 = w &&& 0xFF := by
  apply BitVec.eq_of_toNat_eq
  have hlow : w.toNat &&& 255 = w.toNat % 256 := Nat.and_two_pow_sub_one_eq_mod w.toNat 8
  simp [opcField, hlow]
  omega

theorem opcode_setWidth_inj {a b : Byte} (h : a.setWidth 32 = b.setWidth 32) : a = b := by
  bv_omega

theorem opcode_and_opcField (b : Byte) : b.setWidth 32 &&& 0xFF = b.setWidth 32 := by
  rw [← opcField_setWidth]
  have hopc : opcField (b.setWidth 32) = b :=
    BitVec.eq_of_toNat_eq (by simpa [opcField] using b.isLt)
  rw [hopc]

/-- The flag bits 8, 9 and 10 of a word. -/
theorem and_flagBits (w : Word) :
    w &&& 0x700 = commandWord 0 (w.getLsbD 8) (w.getLsbD 9) (w.getLsbD 10) := by
  apply BitVec.eq_of_getLsbD_eq
  intro k hk
  rw [commandWord, BitVec.getLsbD_append (n := 24), BitVec.getLsbD_append (n := 23),
    BitVec.getLsbD_append (n := 22), BitVec.getLsbD_append (n := 21)]
  interval_cases k <;> simp

/-! ## The masks -/

theorem maskOf_eq_opcodeMask (i : Instr) : maskOf i = opcodeMask ((opcodeOf i).setWidth 32) := by
  cases i <;> rfl

/-- Every mask keeps the OPC field. -/
theorem opcodeMask_and_opcField (opc : Word) : opcodeMask opc &&& 0xFF = 0xFF := by
  unfold opcodeMask
  split_ifs <;> rfl

/-- What a mask leaves free are flag bits. -/
theorem flagBits_and_not_opcodeMask (opc : Word) :
    0x700 &&& ~~~opcodeMask opc = ~~~opcodeMask opc := by
  unfold opcodeMask
  split_ifs <;> rfl

/-- A word that passes the mask test of a mnemonic has its opcode. -/
theorem opcField_of_match {w : Word} {i : Instr} (h : w &&& maskOf i = (opcodeOf i).setWidth 32) :
    opcField w = opcodeOf i := by
  apply opcode_setWidth_inj
  calc (opcField w).setWidth 32
      = w &&& (maskOf i &&& 0xFF) := by
        rw [opcField_setWidth, maskOf_eq_opcodeMask, opcodeMask_and_opcField]
    _ = (opcodeOf i).setWidth 32 := by rw [← BitVec.and_assoc, h, opcode_and_opcField]

/-! ## The opcode map -/

theorem instrOf_opcodeOf (i : Instr) (cf wa a1 : Bool) :
    ∃ j, instrOf (opcodeOf i).toNat cf wa a1 = some j := by
  cases i <;> exact ⟨_, rfl⟩

/-- The map gives the mnemonic of the opcode, with those of the three flags that its mask leaves
free. -/
theorem of_instrOf_eq_some {opc : Nat} {cf wa a1 : Bool} {i : Instr}
    (h : instrOf opc cf wa a1 = some i) :
    opc = (opcodeOf i).toNat ∧
      encode i = (opcodeOf i).setWidth 32 ||| (commandWord 0 cf wa a1 &&& ~~~maskOf i) := by
  unfold instrOf at h
  split at h
  all_goals cases h
  all_goals exact ⟨rfl, by revert cf wa a1; decide⟩

theorem opcodeOf_mem_listedOpcodes (i : Instr) : (opcodeOf i).setWidth 32 ∈ listedOpcodes := by
  cases i <;> simp [opcodeOf, listedOpcodes]

theorem listedOpcodes_in_map : (listedOpcodes.all fun x =>
    (instrOf x.toNat false false false).isSome && decide (x.toNat < 256)) = true := by
  decide

theorem exists_opcodeOf_of_mem_listedOpcodes {x : Word} (hx : x ∈ listedOpcodes) :
    ∃ i, x = (opcodeOf i).setWidth 32 := by
  have hmap := List.all_eq_true.1 listedOpcodes_in_map x hx
  rw [Bool.and_eq_true, decide_eq_true_eq] at hmap
  obtain ⟨hsome, hlt⟩ := hmap
  obtain ⟨i, hi⟩ := Option.isSome_iff_exists.1 hsome
  obtain ⟨hopc, -⟩ := of_instrOf_eq_some hi
  exact ⟨i, by bv_omega⟩

/-! ## Decoding -/

/-- The mnemonic that a word's opcode and flag bits select. -/
def selected (w : Word) : Option Instr :=
  instrOf (opcField w).toNat (w.getLsbD 8) (w.getLsbD 9) (w.getLsbD 10)

theorem opcField_of_selected {w : Word} {i : Instr} (h : selected w = some i) :
    opcField w = opcodeOf i :=
  BitVec.eq_of_toNat_eq (of_instrOf_eq_some h).1

/-- The word of the selected command has the flag bits its mask leaves free as they stand in `w`. -/
theorem encode_of_selected {w : Word} {i : Instr} (h : selected w = some i) :
    encode i = (opcodeOf i).setWidth 32 ||| (w &&& ~~~maskOf i) := by
  obtain ⟨-, hword⟩ := of_instrOf_eq_some h
  rw [hword, ← and_flagBits, BitVec.and_assoc, maskOf_eq_opcodeMask, flagBits_and_not_opcodeMask]

theorem exists_selected {w : Word} {i : Instr} (h : opcField w = opcodeOf i) :
    ∃ j, selected w = some j := by
  unfold selected
  rw [h]
  exact instrOf_opcodeOf i _ _ _

/-- R303: a word that selects no mnemonic is an illegal opcode. -/
theorem decodeWord_of_selected_none {w : Word} (h : selected w = none) :
    decodeWord w = .error .illegalOpcode := by
  unfold selected at h
  rw [decodeWord, h]

/-- R302, R304: the mask test decides a word whose opcode is listed. -/
theorem decodeWord_of_selected {w : Word} {i : Instr} (h : selected w = some i) :
    decodeWord w =
      if w &&& maskOf i = (opcodeOf i).setWidth 32 then .ok i else .error .reservedField := by
  rw [← opcField_of_selected h]
  unfold selected at h
  rw [decodeWord, h]

theorem decodeWord_eq_ok_iff (w : Word) (i : Instr) :
    decodeWord w = .ok i ↔ selected w = some i ∧ w &&& maskOf i = (opcodeOf i).setWidth 32 := by
  cases hsel : selected w with
  | none => simp [decodeWord_of_selected_none hsel]
  | some j =>
    rw [decodeWord_of_selected hsel]
    split_ifs with hmask
    · simp only [Except.ok.injEq, Option.some.injEq]
      exact ⟨fun h => ⟨h, h ▸ hmask⟩, fun h => h.1⟩
    · simp only [Option.some.injEq, false_iff]
      rintro ⟨rfl, h⟩
      exact hmask h

theorem match_iff_decodeWord (w : Word) (i : Instr) :
    w &&& maskOf i = (opcodeOf i).setWidth 32 ↔
      ∃ j, decodeWord w = .ok j ∧ opcodeOf j = opcodeOf i := by
  constructor
  · intro h
    obtain ⟨j, hj⟩ := exists_selected (opcField_of_match h)
    have hopc : opcodeOf j = opcodeOf i := by rw [← opcField_of_selected hj, opcField_of_match h]
    refine ⟨j, (decodeWord_eq_ok_iff w j).2 ⟨hj, ?_⟩, hopc⟩
    rwa [maskOf_eq_opcodeMask, hopc, ← maskOf_eq_opcodeMask]
  · rintro ⟨j, hj, hopc⟩
    obtain ⟨-, hmask⟩ := (decodeWord_eq_ok_iff w j).1 hj
    rwa [maskOf_eq_opcodeMask, hopc, ← maskOf_eq_opcodeMask] at hmask

/-! ## Encoding -/

theorem encodedWord (i : Instr) : EncodedWord.Statement i := by
  cases i
  exacts [EncodedWord.nop, EncodedWord.encDxt1 _ _ _, EncodedWord.encDxt3 _ _,
    EncodedWord.encDxt5 _ _, EncodedWord.encAlphaExplicit, EncodedWord.encAlphaInterp,
    EncodedWord.decDxt1, EncodedWord.decDxt3, EncodedWord.decDxt5, EncodedWord.decAlphaExplicit,
    EncodedWord.decAlphaInterp, EncodedWord.decColor4,
    EncodedWord.vadd4, EncodedWord.vsub4, EncodedWord.vmul4, EncodedWord.vmadd4,
    EncodedWord.vnmsub4, EncodedWord.vclamp4, EncodedWord.vtrunc4, EncodedWord.vrecip4,
    EncodedWord.vadd3, EncodedWord.vsub3, EncodedWord.vmul3, EncodedWord.vmadd3,
    EncodedWord.vnmsub3, EncodedWord.vclamp3, EncodedWord.vtrunc3, EncodedWord.vrecip3,
    EncodedWord.vdot3, EncodedWord.precip]

theorem selected_encode (i : Instr) : selected (encode i) = some i := by
  cases i with
  | encDxt1 cf wa a1 => revert cf wa a1; decide
  | encDxt3 cf wa => revert cf wa; decide
  | encDxt5 cf wa => revert cf wa; decide
  | _ => rfl

theorem decodeWord_encode (i : Instr) : decodeWord (encode i) = .ok i := by
  obtain ⟨-, hmask⟩ := encodedWord i
  exact (decodeWord_eq_ok_iff _ _).2 ⟨selected_encode i, hmask⟩

/-- The mask test fixes the bits under the mask, and the selected flags are the bits it leaves
free. -/
theorem eq_encode_of_decodeWord {w : Word} {i : Instr} (h : decodeWord w = .ok i) :
    w = encode i := by
  obtain ⟨hsel, hmask⟩ := (decodeWord_eq_ok_iff w i).1 h
  calc w = (w &&& maskOf i) ||| (w &&& ~~~maskOf i) := by
        rw [← BitVec.and_or_distrib_left, BitVec.or_not_self, BitVec.and_allOnes]
    _ = encode i := by rw [hmask, encode_of_selected hsel]

/-- Settles O8: the word of a command passes the decoder's test, and a word that passes it is put
together from the command's opcode and flags. -/
theorem wordsDecodeExactlyToTheirCommands : Obligations.WordsDecodeExactlyToTheirCommands :=
  fun _ i => ⟨eq_encode_of_decodeWord, fun h => h ▸ decodeWord_encode i⟩

/-! ## The two failures -/

theorem decodeWord_of_not_listed {w : Word} (h : w &&& 0xFF ∉ listedOpcodes) :
    decodeWord w = .error .illegalOpcode := by
  cases hsel : selected w with
  | none => exact decodeWord_of_selected_none hsel
  | some i =>
    rw [← opcField_setWidth, opcField_of_selected hsel] at h
    exact absurd (opcodeOf_mem_listedOpcodes i) h

/-- A listed opcode's word is decided by the mask of 60_exceptions.md R901. -/
theorem decodeWord_of_listed {w : Word} (h : w &&& 0xFF ∈ listedOpcodes) :
    ∃ i, decodeWord w =
      if w &&& opcodeMask (w &&& 0xFF) = w &&& 0xFF then .ok i else .error .reservedField := by
  obtain ⟨i, hi⟩ := exists_opcodeOf_of_mem_listedOpcodes h
  obtain ⟨j, hj⟩ := exists_selected (opcode_setWidth_inj ((opcField_setWidth w).trans hi))
  refine ⟨j, ?_⟩
  rw [← opcField_setWidth, opcField_of_selected hj, ← maskOf_eq_opcodeMask]
  exact decodeWord_of_selected hj

/-- Settles O9: a word selects a mnemonic by its opcode alone, and the mask test keeps the
opcode. -/
theorem maskAndMatchDecideTheDecoder : Obligations.MaskAndMatchDecideTheDecoder := by
  refine ⟨fun w => ⟨decodeWord_of_not_listed, fun hlisted => ?_⟩, maskOf_eq_opcodeMask,
    fun i w => match_iff_decodeWord w i, fun i j w hi hj => ?_⟩
  · obtain ⟨i, hi⟩ := decodeWord_of_listed hlisted
    exact ⟨fun hmask => hi.trans (if_neg hmask), fun hmask => ⟨i, hi.trans (if_pos hmask)⟩⟩
  · exact (opcField_of_match hi).symm.trans (opcField_of_match hj)

/-! ## Words as bytes -/

theorem decodeBytes_of_eq_encode {b0 b1 b2 b3 : Byte} {i : Instr}
    (h : wordOfBytes b0 b1 b2 b3 = encode i) : decodeBytes [b0, b1, b2, b3] = .ok i := by
  simp [decodeBytes, h, decodeWord_encode, Except.mapError]

/-- Settles O10: five of the strings of bytes are words of the encoder, the other two fail R304 and
R303. -/
theorem sampleWordsDecodeAsTheTableSays : Obligations.SampleWordsDecodeAsTheTableSays := by
  refine ⟨decodeBytes_of_eq_encode ?_, decodeBytes_of_eq_encode ?_, decodeBytes_of_eq_encode ?_,
    decodeBytes_of_eq_encode ?_, decodeBytes_of_eq_encode ?_, ?_, ?_⟩
  all_goals decide

end Sys2Proof.Encoding
end

section
/-! SUPPORT. Where the scalar operations give a NaN, what the selections do with one, and the clamp and
the truncation made of them (40_vector_primitives.md R403 to R409). -/

namespace Sys2Proof.Selections

open Sys2Proof Sys2Proof.Machine Sys2Proof.Statements Sys2Proof.Rounding Sys2Proof.Scalar

/-! ## The canonical NaN (R409) -/

/-- `r` is the canonical NaN exactly under the condition `p`, and no other NaN. -/
structure CanonicalNanIff (r : F32) (p : Prop) : Prop where
  eq_of : p → r = qNaN
  isNaN_of_not : ¬ p → isNaN r = false

theorem isNaN_qNaN : isNaN qNaN = true := by decide

theorem isNaN_of_isInf {x : F32} (h : isInf x = true) : isNaN x = false := by
  simp_all [isInf, isNaN]

theorem isZero_of_isInf {x : F32} (h : isInf x = true) : isZero x = false := by
  have := binary32_inf
  simp_all [isInf, isZero]

@[simp] theorem isNaN_fpack_zero (neg : Bool) : isNaN (fpack neg 0) = false := by
  cases neg <;> decide

@[simp] theorem isInf_finf (neg : Bool) : isInf (finf neg) = true := by cases neg <;> decide

@[simp] theorem fsign_finf (neg : Bool) : fsign (finf neg) = neg := fsign_fpack neg (by decide)

theorem CanonicalNanIff.eq_iff {r : F32} {p : Prop} (h : CanonicalNanIff r p) : r = qNaN ↔ p := by
  refine ⟨fun hr => by_contra fun hp => ?_, h.eq_of⟩
  simpa [hr, isNaN_qNaN] using h.isNaN_of_not hp

theorem CanonicalNanIff.eq_of_isNaN {r : F32} {p : Prop} (h : CanonicalNanIff r p)
    (hr : isNaN r = true) : r = qNaN :=
  h.eq_of (by_contra fun hp => by simp [h.isNaN_of_not hp] at hr)

/-! ## The invalid operations of R9 -/

/-- Infinity times zero, in either order. -/
def infTimesZero (a b : F32) : Prop :=
  (isInf a = true ∧ isZero b = true) ∨ (isZero a = true ∧ isInf b = true)

/-- No operand is both, so it is enough that one is infinite and one is zero. -/
theorem infTimesZero_iff (a b : F32) : infTimesZero a b ↔
    (isInf a = true ∨ isInf b = true) ∧ (isZero a = true ∨ isZero b = true) := by
  have ha : isInf a = true → ¬ isZero a = true := fun h => by simp [isZero_of_isInf h]
  have hb : isInf b = true → ¬ isZero b = true := fun h => by simp [isZero_of_isInf h]
  unfold infTimesZero
  tauto

theorem canonicalNanIff_fadd (a b : F32) : CanonicalNanIff (fadd a b)
    (isNaN a = true ∨ isNaN b = true ∨ (isInf a = true ∧ isInf b = true ∧ fsign a ≠ fsign b)) := by
  constructor
  · rintro (ha | hb | ⟨ha, hb, hne⟩)
    · simp [fadd, ha]
    · simp [fadd, hb]
    · simp [fadd, isNaN_of_isInf ha, isNaN_of_isInf hb, ha, hb, hne]
  · intro hp
    unfold fadd
    split_ifs <;> simp_all

theorem canonicalNanIff_fsub (a b : F32) : CanonicalNanIff (fsub a b)
    (isNaN a = true ∨ isNaN b = true ∨ (isInf a = true ∧ isInf b = true ∧ fsign a = fsign b)) := by
  simpa [fsub] using canonicalNanIff_fadd a (fneg b)

theorem canonicalNanIff_fmul (a b : F32) : CanonicalNanIff (fmul a b)
    (isNaN a = true ∨ isNaN b = true ∨ infTimesZero a b) := by
  rw [infTimesZero_iff]
  constructor
  · rintro (ha | hb | ⟨hinf, hzero⟩)
    · simp [fmul, ha]
    · simp [fmul, hb]
    · simp [fmul, hinf, hzero]
  · intro hp
    unfold fmul
    dsimp only
    split_ifs <;> simp_all

theorem canonicalNanIff_fdiv (a b : F32) : CanonicalNanIff (fdiv a b)
    (isNaN a = true ∨ isNaN b = true ∨ (isInf a = true ∧ isInf b = true) ∨
      (isZero a = true ∧ isZero b = true)) := by
  constructor
  · rintro (ha | hb | ⟨ha, hb⟩ | ⟨ha, hb⟩)
    · simp [fdiv, ha]
    · simp [fdiv, hb]
    · simp [fdiv, ha, hb]
    · have : isInf a = true → isZero a = false := isZero_of_isInf
      have : isInf b = true → isZero b = false := isZero_of_isInf
      simp_all [fdiv]
  · intro hp
    unfold fdiv
    dsimp only
    split_ifs <;> simp_all

theorem canonicalNanIff_fsqrt (a : F32) : CanonicalNanIff (fsqrt a)
    (isNaN a = true ∨ (fsign a = true ∧ isZero a = false)) := by
  constructor
  · rintro (ha | ⟨hs, hz⟩)
    · simp [fsqrt, ha]
    · simp [fsqrt, hs, hz]
  · intro hp
    unfold fsqrt
    dsimp only
    split_ifs <;> simp_all

/-- In the fused form no product overflows, so the condition speaks of the operands (log 8). -/
theorem canonicalNanIff_ffma (a b c : F32) : CanonicalNanIff (ffma a b c)
    (isNaN a = true ∨ isNaN b = true ∨ isNaN c = true ∨ infTimesZero a b ∨
      ((isInf a = true ∨ isInf b = true) ∧ isInf c = true ∧ fsign c ≠ productNegative a b)) := by
  rw [infTimesZero_iff, productNegative]
  constructor
  · rintro (ha | hb | hc | ⟨hinf, hzero⟩ | ⟨hinf, hc, hne⟩)
    · simp [ffma, ha]
    · simp [ffma, hb]
    · simp [ffma, hc]
    · simp [ffma, hinf, hzero]
    · simp [ffma, hinf, hc, hne]
  · intro hp
    unfold ffma
    dsimp only
    split_ifs <;> simp_all

/-! ## The multiply-adds (R404, R405) -/

/-- The product of an infinity is a NaN or the infinity of the product's sign. -/
theorem fmul_of_isInf {a b : F32} (h : isInf a = true ∨ isInf b = true) :
    fmul a b = qNaN ∨ fmul a b = finf (productNegative a b) := by
  unfold fmul productNegative
  dsimp only
  split_ifs <;> simp_all

/-- R404 in both forms: a NaN operand or an invalid product gives the canonical NaN. -/
theorem fmadd_of_invalid (fused : Bool) {a b c : F32}
    (h : isNaN a = true ∨ isNaN b = true ∨ isNaN c = true ∨ infTimesZero a b) :
    fmadd fused a b c = qNaN := by
  cases fused with
  | true => exact (canonicalNanIff_ffma a b c).eq_of (by tauto)
  | false =>
    refine (canonicalNanIff_fadd (fmul a b) c).eq_of ?_
    by_cases hc : isNaN c = true
    · exact .inr (.inl hc)
    · have hprod : fmul a b = qNaN := (canonicalNanIff_fmul a b).eq_of (by tauto)
      exact .inl (hprod ▸ isNaN_qNaN)

theorem fmadd_of_cancel (fused : Bool) {a b c : F32} (hab : isInf a = true ∨ isInf b = true)
    (hc : isInf c = true) (hne : fsign c ≠ productNegative a b) : fmadd fused a b c = qNaN := by
  cases fused with
  | true => exact (canonicalNanIff_ffma a b c).eq_of (by tauto)
  | false =>
    refine (canonicalNanIff_fadd (fmul a b) c).eq_of ?_
    rcases fmul_of_isInf hab with hprod | hprod
    · exact .inl (hprod ▸ isNaN_qNaN)
    · exact .inr (.inr ⟨by simp [hprod], hc, by simpa [hprod] using hne.symm⟩)

theorem fmadd_eq_of_isNaN (fused : Bool) {a b c : F32} (h : isNaN (fmadd fused a b c) = true) :
    fmadd fused a b c = qNaN := by
  cases fused with
  | true => exact (canonicalNanIff_ffma a b c).eq_of_isNaN h
  | false => exact (canonicalNanIff_fadd (fmul a b) c).eq_of_isNaN h

/-- The fused C - A*B is a fused multiply-add (log 9). -/
theorem fnmsub_fused (a b c : F32) : fnmsub true a b c = fmadd true (fneg a) b c := by
  rw [fnmsub, fmadd, if_pos rfl, if_pos rfl]

theorem productNegative_fneg (a b : F32) : productNegative (fneg a) b = !productNegative a b := by
  simp [productNegative]

/-- R405 in both forms. -/
theorem fnmsub_of_invalid (fused : Bool) {a b c : F32}
    (h : isNaN a = true ∨ isNaN b = true ∨ isNaN c = true ∨ infTimesZero a b) :
    fnmsub fused a b c = qNaN := by
  cases fused with
  | true =>
    rw [fnmsub_fused]
    exact fmadd_of_invalid true (by simpa [infTimesZero] using h)
  | false =>
    refine (canonicalNanIff_fsub c (fmul a b)).eq_of ?_
    by_cases hc : isNaN c = true
    · exact .inl hc
    · have hprod : fmul a b = qNaN := (canonicalNanIff_fmul a b).eq_of (by tauto)
      exact .inr (.inl (hprod ▸ isNaN_qNaN))

theorem fnmsub_of_cancel (fused : Bool) {a b c : F32} (hab : isInf a = true ∨ isInf b = true)
    (hc : isInf c = true) (heq : fsign c = productNegative a b) : fnmsub fused a b c = qNaN := by
  cases fused with
  | true =>
    rw [fnmsub_fused]
    exact fmadd_of_cancel true (by simpa using hab) hc (by simp [productNegative_fneg, heq])
  | false =>
    refine (canonicalNanIff_fsub c (fmul a b)).eq_of ?_
    rcases fmul_of_isInf hab with hprod | hprod
    · exact .inr (.inl (hprod ▸ isNaN_qNaN))
    · exact .inr (.inr ⟨hc, by simp [hprod], by simpa [hprod] using heq⟩)

theorem fnmsub_eq_of_isNaN (fused : Bool) {a b c : F32} (h : isNaN (fnmsub fused a b c) = true) :
    fnmsub fused a b c = qNaN := by
  cases fused with
  | true =>
    rw [fnmsub_fused] at h ⊢
    exact fmadd_eq_of_isNaN true h
  | false => exact (canonicalNanIff_fsub c (fmul a b)).eq_of_isNaN h

/-! ## The selections (R403, R406) -/

theorem fmax_of_isNaN {a b : F32} (h : isNaN a = true ∨ isNaN b = true) : fmax a b = b := by
  simp [fmax, fgt, (compare_nan h.symm).1]

theorem fmin_of_isNaN {a b : F32} (h : isNaN a = true ∨ isNaN b = true) : fmin a b = b := by
  simp [fmin, (compare_nan h).1]

theorem clamp01_of_isNaN {x : F32} (h : isNaN x = true) : clamp01 x = x := by
  rw [clamp01, fmax_of_isNaN (.inr h), fmin_of_isNaN (.inr h)]

theorem ftrunc_of_isNaN {x : F32} (h : isNaN x = true) : ftrunc x = x := by
  simp [ftrunc, h]

/-- Settles O27: each operation by its invalid cases, the multiply-adds by those of their sum. -/
theorem arithmeticNansAreCanonical : Obligations.ArithmeticNansAreCanonical := by
  intro a b c fused
  refine ⟨(canonicalNanIff_fadd a b).eq_iff, (canonicalNanIff_fsub a b).eq_iff,
    (canonicalNanIff_fmul a b).eq_iff, (canonicalNanIff_fdiv a b).eq_iff,
    (canonicalNanIff_fsqrt a).eq_iff,
    fun h => ⟨fmadd_of_invalid fused h, fnmsub_of_invalid fused h⟩,
    fun hab hc => ⟨fmadd_of_cancel fused hab hc, fnmsub_of_cancel fused hab hc⟩,
    (canonicalNanIff_fadd a b).eq_of_isNaN, (canonicalNanIff_fsub a b).eq_of_isNaN,
    (canonicalNanIff_fmul a b).eq_of_isNaN, (canonicalNanIff_fdiv a b).eq_of_isNaN,
    (canonicalNanIff_fsqrt a).eq_of_isNaN, fmadd_eq_of_isNaN fused, fnmsub_eq_of_isNaN fused,
    fun h => ⟨fmax_of_isNaN h, fmin_of_isNaN h⟩, fun h => ⟨clamp01_of_isNaN h, ftrunc_of_isNaN h⟩⟩

/-! ## The clamp (R406) -/

theorem fkey_lt_of_flt {a b : F32} (h : flt a b = true) : fkey a < fkey b := by
  simp only [flt, Bool.and_eq_true, decide_eq_true_eq] at h
  exact h.2

theorem clamp01_of_lt_zero {x : F32} (h : flt x fzero = true) : clamp01 x = fzero := by
  have hmax : fmax fzero x = fzero := by simp [fmax, fgt, h]
  rw [clamp01, hmax]
  decide

/-- The clamp of what is not below 0 is decided by the comparison with 1. -/
theorem clamp01_of_not_lt_zero {x : F32} (h : flt x fzero = false) :
    clamp01 x = if flt fone x = true then fone else x := by
  have hmax : fmax fzero x = x := by simp [fmax, fgt, h]
  rw [clamp01, hmax, fmin]

theorem clamp01_of_one_lt {x : F32} (h : flt fone x = true) : clamp01 x = fone := by
  have hzero : flt x fzero = false := by
    by_contra hneg
    have hlt := fkey_lt_of_flt (Bool.of_not_eq_false hneg)
    have hgt := fkey_lt_of_flt h
    have hone : fkey fzero < fkey fone := by decide
    omega
  rw [clamp01_of_not_lt_zero hzero, if_pos h]

/-- Settles O28: the outer selection keeps what the inner one leaves, but for x above 1. -/
theorem clampResultsAreThoseListed : Obligations.ClampResultsAreThoseListed := by
  refine fun x => ⟨rfl, clamp01_of_isNaN, clamp01_of_lt_zero, clamp01_of_one_lt,
    fun _ hzero hone => ?_, by decide, by decide, by decide⟩
  have hone' : flt fone x = false := hone
  rw [clamp01_of_not_lt_zero hzero, hone', if_neg (by decide)]

/-! ## Truncation (R407) -/

/-- The pattern of an exact value is that value's rounding. -/
theorem fmag_fround_unitsOf (neg : Bool) {p : Nat} (hp : p < binary32.inf) :
    fmag (fround neg (unitsOf binary32 p) 1) = p := by
  have h := roundMag_unitsOf binary32_frac_pos Nat.one_pos hp.le
  rwa [Nat.one_mul, ← fmag_fround neg] at h

theorem fvalue_eq (x : F32) :
    fvalue x =
      if fsign x = true then -(unitsOf binary32 (fmag x) : Int) else unitsOf binary32 (fmag x) :=
  rfl

/-- From 2^23 on a pattern is its own integer part; below, the integer part has at most 24 bits. -/
theorem exists_unitsOf_eq_trunc {m : Nat} (hm : m < binary32.inf) :
    ∃ p, p < binary32.inf ∧ unitsOf binary32 p = unitsOf binary32 m / 2 ^ 149 * 2 ^ 149 := by
  obtain ⟨s, r, hsr, hs, hr⟩ := exists_shift_add binary32 m
  have hunits : unitsOf binary32 m = r * 2 ^ s := by rw [hsr, unitsOf_shift_add _ hs hr.le]
  rcases Nat.le_total 149 s with hlarge | hsmall
  · refine ⟨m, hm, ?_⟩
    obtain ⟨k, rfl⟩ := Nat.exists_eq_add_of_le hlarge
    rw [hunits, Nat.div_mul_cancel]
    exact Dvd.intro _ (by rw [pow_add, Nat.mul_left_comm])
  · apply exists_unitsOf_eq
    have hr' : r ≤ 2 ^ 24 := hr.le
    calc unitsOf binary32 m / 2 ^ 149 ≤ r * 2 ^ 149 / 2 ^ 149 := by
          rw [hunits]
          exact Nat.div_le_div_right (Nat.mul_le_mul_left _ (Nat.pow_le_pow_right (by decide) hsmall))
      _ ≤ 2 ^ 24 := by rwa [Nat.mul_div_cancel _ (Nat.two_pow_pos 149)]

theorem ftrunc_of_finite {x : F32} (h : finite x) (h0 : fmag x ≠ 0) :
    ftrunc x = fround (fsign x) (funits x / 2 ^ 149 * 2 ^ 149) 1 := by
  simp [ftrunc, isNaN_of_finite h, isInf_of_finite h, isZero, h0]

theorem ftrunc_of_special {x : F32} (h : fmag x = 0 ∨ 0x7F800000 ≤ fmag x) : ftrunc x = x := by
  have hclass : isNaN x = true ∨ isInf x = true ∨ isZero x = true := by
    simp only [isNaN, isInf, isZero, decide_eq_true_eq, beq_iff_eq, binary32_inf]
    omega
  rcases hclass with h | h | h <;> simp [ftrunc, h]

theorem ftrunc_exact {x : F32} (h : finite x) :
    fvalue (ftrunc x) = (fvalue x).tdiv (2 ^ 149) * 2 ^ 149 ∧
      fsign (ftrunc x) = fsign x ∧ finite (ftrunc x) := by
  by_cases h0 : fmag x = 0
  · rw [ftrunc_of_special (.inl h0), (fvalue_eq_zero_iff x).2 h0]
    exact ⟨by simp, rfl, h⟩
  have hinf : fmag x < binary32.inf := by rwa [binary32_inf]
  obtain ⟨p, hp, hunits⟩ := exists_unitsOf_eq_trunc hinf
  have htrunc : ftrunc x = fround (fsign x) (unitsOf binary32 p) 1 := by
    rw [ftrunc_of_finite h h0, hunits, funits]
  have hmag : fmag (ftrunc x) = p := by rw [htrunc, fmag_fround_unitsOf _ hp]
  have hsign : fsign (ftrunc x) = fsign x := by rw [htrunc, fsign_fround]
  refine ⟨?_, hsign, by rwa [finite, hmag, ← binary32_inf]⟩
  rw [fvalue_eq, fvalue_eq, hsign, hmag, hunits]
  push_cast
  split_ifs
  · rw [Int.neg_tdiv, Int.tdiv_eq_ediv_of_nonneg (by positivity), neg_mul]
  · rw [Int.tdiv_eq_ediv_of_nonneg (by positivity)]

/-- Settles O29: the integer part of a finite value is a pattern's value, so its rounding is exact. -/
theorem truncationIsExactAndKeepsTheSign : Obligations.TruncationIsExactAndKeepsTheSign :=
  fun _ => ⟨ftrunc_exact, ftrunc_of_special⟩

end Sys2Proof.Selections
end

section
/-! SUPPORT. The floored reciprocal (40_vector_primitives.md R411): widening is exact, 1/x does not
depend on the unit it is written in, and narrowing is the rounding of R9. -/

namespace Sys2Proof.Reciprocal

open Sys2Proof Sys2Proof.Machine Sys2Proof.Statements Sys2Proof.Rounding Sys2Proof.Scalar
  Sys2Proof.Selections

theorem binary64_frac_pos : 0 < binary64.frac := by decide

theorem binary64_inf : binary64.inf = 0x7FF0000000000000 := by decide

/-- A unit of binary32 is 2^925 units of binary64. -/
theorem unit_ratio_pos : 0 < 2 ^ 925 := pow_pos two_pos 925

/-! ## Rounding of a ratio -/

theorem roundEven_mul_right (num den : Nat) {k : Nat} (hk : 0 < k) :
    roundEven (num * k) (den * k) = roundEven num den := by
  have hlt : den * k < 2 * (num % den * k) ↔ den < 2 * (num % den) := by
    rw [← Nat.mul_assoc, Nat.mul_lt_mul_right hk]
  have heq : 2 * (num % den * k) = den * k ↔ 2 * (num % den) = den := by
    rw [← Nat.mul_assoc, Nat.mul_left_inj hk.ne']
  simp only [roundEven, Nat.mul_div_mul_right _ _ hk, Nat.mul_mod_mul_right, hlt, heq]

/-- A ratio rounds as it does in other units. -/
theorem roundMag_mul_right (f : FloatFormat) (num den : Nat) {k : Nat} (hk : 0 < k) :
    roundMag f (num * k) (den * k) = roundMag f num den := by
  simp only [roundMag, Nat.mul_div_mul_right _ _ hk, Nat.shiftLeft_eq, Nat.mul_right_comm den k,
    roundEven_mul_right _ _ hk]

/-- A rounded result is at most twice the exact one, for 0 lies below it. -/
theorem unitsOf_roundMag_le {f : FloatFormat} (hf : 0 < f.frac) (num : Nat) {den : Nat}
    (hden : 0 < den) : den * unitsOf f (roundMag f num den) ≤ 2 * num := by
  have hle : unitsOf f (roundMag f num den) ≤ unitsOf f (roundUnbounded f num den) :=
    (unitsOf_strictMono f).monotone (Nat.min_le_left _ _)
  refine (Nat.mul_le_mul_left den hle).trans ?_
  rcases Nat.eq_zero_or_pos (roundUnbounded f num den) with h0 | hpos
  · simp [h0]
  · simpa using (roundUnbounded_roundsTo hf num hden).below 0 hpos

/-! ## Widening -/

/-- Every finite binary32 is a finite binary64. -/
theorem exists_binary64_pattern {m : Nat} (hm : m < binary32.inf) :
    ∃ p, p < binary64.inf ∧ unitsOf binary64 p = unitsOf binary32 m * 2 ^ 925 := by
  obtain ⟨s, r, hsr, hs, hr⟩ := exists_shift_add binary32 m
  have hunits : unitsOf binary32 m = r * 2 ^ s := by rw [hsr, unitsOf_shift_add _ hs hr.le]
  rcases Nat.eq_zero_or_pos r with rfl | hpos
  · exact ⟨0, by decide, by rw [hunits, Nat.zero_mul, Nat.zero_mul, unitsOf_zero]⟩
  have hs' : s < 255 := by
    rw [hsr, binary32_inf, show 2 ^ binary32.frac = 2 ^ 23 from rfl] at hm
    omega
  obtain ⟨k, hk, hlow, hhigh⟩ := exists_normalising_shift hpos hr.le
  have hsplit : r * 2 ^ (52 - k) = r * 2 ^ (23 - k) * 2 ^ 29 := by
    rw [Nat.mul_assoc, ← pow_add]
    congr 2
    omega
  have hfrac : 2 ^ binary64.frac = 2 ^ 52 := rfl
  refine ⟨(s + 873 + k) * 2 ^ binary64.frac + r * 2 ^ (52 - k), ?_, ?_⟩
  · rw [binary64_inf, hfrac]
    omega
  · rw [unitsOf_shift_add binary64 (.inr (by omega)) (by omega), hunits, Nat.mul_assoc, Nat.mul_assoc,
      ← pow_add, ← pow_add]
    congr 2
    omega

theorem widenMag_exact {m : Nat} (hm : m < binary32.inf) :
    widenMag m < binary64.inf ∧ unitsOf binary64 (widenMag m) = unitsOf binary32 m * 2 ^ 925 := by
  obtain ⟨p, hp, hunits⟩ := exists_binary64_pattern hm
  have hwiden : widenMag m = p := by
    rw [widenMag, if_pos hm, ← hunits, ← Nat.one_mul (unitsOf binary64 p)]
    exact roundMag_unitsOf binary64_frac_pos Nat.one_pos hp.le
  rw [hwiden]
  exact ⟨hp, hunits⟩

theorem widenMag_of_isInf {x : F32} (h : isInf x = true) : widenMag (fmag x) = binary64.inf := by
  have hmag : fmag x = binary32.inf := by simpa [isInf] using h
  simp [widenMag, hmag]

theorem widenMag_of_isNaN {x : F32} (h : isNaN x = true) : binary64.inf < widenMag (fmag x) := by
  have hmag : binary32.inf < fmag x := by simpa [isNaN] using h
  rw [widenMag, if_neg hmag.not_gt, if_neg hmag.ne']
  exact Nat.lt_succ_self _

/-! ## The reciprocal and narrowing -/

theorem recipMag64_of_pos {p : Nat} (hpos : 0 < p) (hp : p < binary64.inf) :
    recipMag64 p = roundMag binary64 (2 ^ 2148) (unitsOf binary64 p) := by
  rw [recipMag64, if_neg hpos.ne', if_pos hp]

/-- In units of 2^-149 on both sides: 1 is 2^149 of them, and a binary64 has 2^925 of its own in each. -/
theorem recipMag64_widenMag {m : Nat} (hpos : 0 < m) (hm : m < binary32.inf) :
    recipMag64 (widenMag m) = roundMag binary64 (2 ^ 1223) (unitsOf binary32 m) := by
  obtain ⟨hlt, hunits⟩ := widenMag_exact hm
  have hwiden : 0 < widenMag m := by
    rw [← (unitsOf_strictMono binary64).lt_iff_lt, hunits, unitsOf_zero]
    exact Nat.mul_pos (by simpa using unitsOf_strictMono binary32 hpos) unit_ratio_pos
  rw [recipMag64_of_pos hwiden hlt, hunits, show 2148 = 1223 + 925 from rfl, pow_add,
    roundMag_mul_right _ _ _ unit_ratio_pos]

/-- Infinity narrows as the value that its pattern continues the scale with. -/
theorem narrowMag_eq {p : Nat} (hp : p ≤ binary64.inf) :
    narrowMag p = roundMag binary32 (unitsOf binary64 p) (2 ^ 925) := by
  rcases hp.lt_or_eq with hlt | rfl
  · rw [narrowMag, if_pos hlt]
  · decide +kernel

/-! ## The function (R411) -/

theorem flt_zero_eq_fsign {x : F32} (hx : isNaN x = false) (h0 : fmag x ≠ 0) :
    flt x fzero = fsign x := by
  have hzero : fkey fzero = 0 := by decide
  have hnan : isNaN fzero = false := by decide
  have hkey : fkey x < 0 ↔ fsign x = true := by
    unfold fkey
    split_ifs with hs
    · simp only [hs, iff_true]
      omega
    · simp [hs]
  simp [flt, hx, hnan, hzero, hkey]

theorem precip_of_le {eps : F64} {x : F32} (h : eps.toNat ≤ widenMag (fmag x))
    (hx : widenMag (fmag x) ≤ binary64.inf) :
    precip eps x = fpack (flt x fzero) (narrowMag (recipMag64 (widenMag (fmag x)))) := by
  rw [precip, if_pos ⟨h, hx⟩]

/-- The floor. -/
theorem precip_of_lt {eps : F64} {x : F32}
    (h : widenMag (fmag x) < eps.toNat ∨ binary64.inf < widenMag (fmag x)) :
    precip eps x = fpack (flt x fzero) (narrowMag (recipMag64 eps.toNat)) := by
  rw [precip, if_neg (by omega)]

/-- Patterns compare as their values do, the widened one by its units of 2^-149. -/
theorem le_widenMag_iff (eps : F64) {x : F32} (hx : finite x) :
    eps.toNat ≤ widenMag (fmag x) ↔ unitsOf binary64 eps.toNat ≤ funits x * 2 ^ 925 := by
  have hinf : fmag x < binary32.inf := by rwa [binary32_inf]
  rw [funits, ← (widenMag_exact hinf).2, (unitsOf_strictMono binary64).le_iff_le]

section
variable {eps : F64} (heps : WellFormed.recipEps eps = true)
include heps

theorem eps_bounds : 0 < eps.toNat ∧ eps.toNat < binary64.inf := by
  simpa [WellFormed.recipEps, binary64_inf] using heps

/-- What stands at or above the epsilon is not 0. -/
theorem funits_pos_of_eps_le {x : F32} (h : unitsOf binary64 eps.toNat ≤ funits x * 2 ^ 925) :
    0 < funits x := by
  have hpos := unitsOf_strictMono binary64 (eps_bounds heps).1
  rw [unitsOf_zero] at hpos
  exact Nat.pos_of_mul_pos_right (hpos.trans_le h)

theorem precip_of_eps_le {x : F32} (hx : finite x)
    (h : unitsOf binary64 eps.toNat ≤ funits x * 2 ^ 925) :
    precip eps x = fpack (fsign x) (roundMag binary32
      (unitsOf binary64 (roundMag binary64 (2 ^ 1223) (funits x))) (2 ^ 925)) := by
  have hinf : fmag x < binary32.inf := by rwa [binary32_inf]
  have h0 : fmag x ≠ 0 := fun h0 =>
    (funits_pos_of_eps_le heps h).ne' ((funits_eq_zero_iff x).2 h0)
  rw [precip_of_le ((le_widenMag_iff eps hx).2 h) (widenMag_exact hinf).1.le,
    flt_zero_eq_fsign (isNaN_of_finite hx) h0, recipMag64_widenMag (Nat.pos_of_ne_zero h0) hinf,
    narrowMag_eq (roundMag_le_inf _ _ _), funits]

theorem precip_of_isInf {x : F32} (hx : isInf x = true) : precip eps x = fpack (fsign x) 0 := by
  have hmag : fmag x ≠ 0 := by
    have h : fmag x = binary32.inf := by simpa [isInf] using hx
    rw [h]
    decide
  have hzero : narrowMag (recipMag64 binary64.inf) = 0 := by decide +kernel
  have hwiden := widenMag_of_isInf hx
  rw [precip_of_le (hwiden ▸ (eps_bounds heps).2.le) hwiden.le, hwiden, hzero,
    flt_zero_eq_fsign (isNaN_of_isInf hx) hmag]

theorem precip_floor {x : F32}
    (h : isNaN x = true ∨ (finite x ∧ funits x * 2 ^ 925 < unitsOf binary64 eps.toNat)) :
    precip eps x = fpack (flt x fzero) (roundMag binary32
      (unitsOf binary64 (roundMag binary64 (2 ^ 2148) (unitsOf binary64 eps.toNat))) (2 ^ 925)) := by
  obtain ⟨hpos, hlt⟩ := eps_bounds heps
  have hbelow : widenMag (fmag x) < eps.toNat ∨ binary64.inf < widenMag (fmag x) := by
    rcases h with hnan | ⟨hfin, hunits⟩
    · exact .inr (widenMag_of_isNaN hnan)
    · exact .inl (Nat.lt_of_not_le fun hle => hunits.not_ge ((le_widenMag_iff eps hfin).1 hle))
  rw [precip_of_lt hbelow, recipMag64_of_pos hpos hlt, narrowMag_eq (roundMag_le_inf _ _ _)]

end

/-! ## The default epsilon -/

/-- PARAM_RECIP_EPS's default (00_scope.md R6). -/
def defaultEps : F64 := defaultParams.recipEps

theorem defaultEps_wellFormed : WellFormed.recipEps defaultEps = true := by decide

theorem defaultEps_floor (neg : Bool) : fpack neg (roundMag binary32
      (unitsOf binary64 (roundMag binary64 (2 ^ 2148) (unitsOf binary64 defaultEps.toNat))) (2 ^ 925)) =
    if neg = true then 0xD368D4A5 else 0x5368D4A5 := by
  cases neg <;> decide +kernel

/-- 0x2B8CBCCC is the largest magnitude below the default epsilon. -/
theorem lt_defaultEps_of_fmag_le {x : F32} (h : fmag x ≤ 0x2B8CBCCC) :
    finite x ∧ funits x * 2 ^ 925 < unitsOf binary64 defaultEps.toNat := by
  have hlast : unitsOf binary32 0x2B8CBCCC * 2 ^ 925 < unitsOf binary64 defaultEps.toNat := by
    decide +kernel
  refine ⟨h.trans_lt (by decide), lt_of_le_of_lt ?_ hlast⟩
  exact Nat.mul_le_mul_right _ ((unitsOf_strictMono binary32).monotone h)

/-- From the default epsilon on, 1/x is far below binary32's infinity. -/
theorem roundMag_recip_lt_inf {u : Nat} (h : unitsOf binary64 defaultEps.toNat ≤ u * 2 ^ 925) :
    roundMag binary32 (unitsOf binary64 (roundMag binary64 (2 ^ 1223) u)) (2 ^ 925) < binary32.inf := by
  have heps : 2 ^ 100 * 2 ^ 925 ≤ unitsOf binary64 defaultEps.toNat := by decide +kernel
  have hu : 2 ^ 100 ≤ u := Nat.le_of_mul_le_mul_right (heps.trans h) unit_ratio_pos
  have hrecip : 2 ^ 100 * unitsOf binary64 (roundMag binary64 (2 ^ 1223) u) ≤ 2 * 2 ^ 1223 :=
    (Nat.mul_le_mul_right _ hu).trans
      (unitsOf_roundMag_le binary64_frac_pos _ (lt_of_lt_of_le (by decide) hu))
  refine lt_of_le_of_ne (roundMag_le_inf _ _ _) fun heq => ?_
  rw [roundMag_eq_inf_iff (by decide) (by decide) _ unit_ratio_pos] at heq
  have hmul := (Nat.mul_le_mul_left (2 ^ 100) heq).trans hrecip
  exact absurd hmul (by decide +kernel)

/-- With the default epsilon the result is finite. -/
theorem finite_precip_defaultEps (x : F32) : finite (precip defaultEps x) := by
  have hfinite {neg : Bool} {m : Nat} (hm : m < binary32.inf) : finite (fpack neg m) := by
    rw [binary32_inf] at hm
    rwa [finite, fmag_fpack neg (by omega)]
  have hfloor (h : isNaN x = true ∨
      (finite x ∧ funits x * 2 ^ 925 < unitsOf binary64 defaultEps.toNat)) :
      finite (precip defaultEps x) := by
    rw [precip_floor defaultEps_wellFormed h, defaultEps_floor]
    unfold finite
    split_ifs <;> decide
  rcases Nat.lt_trichotomy (fmag x) binary32.inf with hlt | heq | hgt
  · have hx : finite x := by rwa [finite, ← binary32_inf]
    rcases Nat.lt_or_ge (funits x * 2 ^ 925) (unitsOf binary64 defaultEps.toNat) with h | h
    · exact hfloor (.inr ⟨hx, h⟩)
    · rw [precip_of_eps_le defaultEps_wellFormed hx h]
      exact hfinite (roundMag_recip_lt_inf h)
  · rw [precip_of_isInf defaultEps_wellFormed (by simp [isInf, heq])]
    exact hfinite (by decide)
  · exact hfloor (.inl (by simpa [isNaN] using hgt))

/-- Settles O24: the command is the function by its arm; at or above the epsilon the reciprocal is that
of the exactly widened value. -/
theorem precipIsFlooredAtTheEpsilon : Obligations.PrecipIsFlooredAtTheEpsilon := by
  refine ⟨fun s => rfl, fun eps x heps => ?_, fun x hx => ?_, fun x => ?_, by decide +kernel,
    by decide +kernel⟩
  · rw [natAbs_fvalue]
    exact ⟨precip_of_eps_le heps, precip_of_isInf heps, precip_floor heps⟩
  · exact (precip_floor defaultEps_wellFormed (hx.imp_right lt_defaultEps_of_fmag_le)).trans
      (defaultEps_floor _)
  · have hfin := finite_precip_defaultEps x
    exact ⟨isNaN_of_finite hfin, isInf_of_finite hfin⟩

end Sys2Proof.Reciprocal
end

section
/-! SUPPORT. The primitive commands (40_vector_primitives.md R420 to R438): what each writes into VR,
the four- and the three-lane form of one scalar operation side by side, and the corner cases. -/

namespace Sys2Proof.Primitives

open Sys2Proof Sys2Proof.Machine Sys2Proof.Statements Sys2Proof.Rounding Sys2Proof.Scalar
  Sys2Proof.Selections

/-! ## The two forms of an operation -/

/-- `i4` and `i3` apply the scalar operation `f`, which may look at PARAM_MADD_FUSED, to each of four and
of three latched lanes. -/
structure LaneWise (f : Bool → F32 → F32 → F32 → F32) (i4 i3 : Instr) : Prop where
  four : ∀ s : State, exec i4 s =
    .next (afterPrimitive s (zipc4 (f s.params.maddFused) s.latch.va s.latch.vb s.latch.vc))
  three : ∀ s : State, exec i3 s =
    .next (afterPrimitive s (withZeroW
      (zipc3 (f s.params.maddFused) (xyz s.latch.va) (xyz s.latch.vb) (xyz s.latch.vc))))

theorem laneWise_vadd : LaneWise (fun _ a b _ => fadd a b) .vadd4 .vadd3 :=
  ⟨fun _ => rfl, fun _ => rfl⟩

theorem laneWise_vsub : LaneWise (fun _ a b _ => fsub a b) .vsub4 .vsub3 :=
  ⟨fun _ => rfl, fun _ => rfl⟩

theorem laneWise_vmul : LaneWise (fun _ a b _ => fmul a b) .vmul4 .vmul3 :=
  ⟨fun _ => rfl, fun _ => rfl⟩

theorem laneWise_vmadd : LaneWise fmadd .vmadd4 .vmadd3 :=
  ⟨fun _ => rfl, fun _ => rfl⟩

theorem laneWise_vnmsub : LaneWise fnmsub .vnmsub4 .vnmsub3 :=
  ⟨fun _ => rfl, fun _ => rfl⟩

theorem laneWise_vclamp : LaneWise (fun _ a _ _ => clamp01 a) .vclamp4 .vclamp3 :=
  ⟨fun _ => rfl, fun _ => rfl⟩

theorem laneWise_vtrunc : LaneWise (fun _ a _ _ => ftrunc a) .vtrunc4 .vtrunc3 :=
  ⟨fun _ => rfl, fun _ => rfl⟩

theorem laneWise_vrecip : LaneWise (fun _ a _ _ => recip a) .vrecip4 .vrecip3 :=
  ⟨fun _ => rfl, fun _ => rfl⟩

/-! ## Sums and products (R420 to R422) -/

/-- R421: the difference of a finite value and itself is +0, for its terms have opposite signs. -/
theorem fsub_self {x : F32} (hx : finite x) : fsub x x = fzero := by
  rw [fsub_of_finite hx hx, froundSum_of_eq_zero (sub_self _), Bool.and_not_self]
  rfl

theorem finite_of_classes {x : F32} (hnan : isNaN x = false) (hinf : isInf x = false) : finite x := by
  simp only [isNaN, isInf, binary32_inf, decide_eq_false_iff_not, beq_eq_false_iff_ne] at hnan hinf
  unfold finite
  omega

/-- Settles O19: the commands by their lanes, the corner cases by evaluation but for x - x. -/
theorem fourLaneArithmeticWritesVr : Obligations.FourLaneArithmeticWritesVr :=
  ⟨fun s => ⟨laneWise_vadd.four s, laneWise_vsub.four s, laneWise_vmul.four s⟩, by decide, by decide,
    by decide, by decide, by decide, by decide,
    fun _ hnan hinf => fsub_self (finite_of_classes hnan hinf), by decide, by decide, by decide⟩

/-! ## Multiply-adds (R423, R424) -/

/-- Settles O20: the lanes of each command follow the latched parameter. -/
theorem multiplyAddFollowsTheFusedParameter : Obligations.MultiplyAddFollowsTheFusedParameter := by
  refine ⟨fun s hfused => ?_, fun s hfused => ?_, by decide, by decide, by decide, by decide⟩
  all_goals
    rw [laneWise_vmadd.four, laneWise_vnmsub.four, hfused]
    exact ⟨rfl, rfl⟩

/-! ## The unguarded reciprocal (R408) -/

/-- Below 2^-128 the reciprocal is beyond the largest finite value. -/
theorem roundMag_recip_of_tiny {u : Nat} (hpos : 0 < u) (hu : u < 2 ^ 21) :
    roundMag binary32 (funits fone * 2 ^ 149) u = binary32.inf := by
  have hone : funits fone = 2 ^ 149 := by decide
  rw [roundMag_eq_inf_iff (by decide) (by decide) _ hpos, hone]
  calc u * ((2 ^ (binary32.frac + 2) - 1) * 2 ^ (binary32.expMax - 3))
      ≤ 2 ^ 21 * ((2 ^ (binary32.frac + 2) - 1) * 2 ^ (binary32.expMax - 3)) :=
        Nat.mul_le_mul_right _ hu.le
    _ ≤ 2 ^ 149 * 2 ^ 149 := by decide

theorem fdiv_one_of_tiny {x : F32} (h : fmag x < 0x00200000) : fdiv fone x = finf (fsign x) := by
  have hsign : productNegative fone x = fsign x := by
    have hone : fsign fone = false := by decide
    simp [productNegative, hone]
  have hone : finite fone := by
    unfold finite
    decide
  have hfin : finite x := by
    unfold finite
    omega
  rcases Nat.eq_zero_or_pos (fmag x) with h0 | hpos
  · have hone0 : fmag fone ≠ 0 := by decide
    rw [← hsign]
    simp [fdiv, productNegative, isNaN_of_finite hone, isInf_of_finite hone, isNaN_of_finite hfin,
      isInf_of_finite hfin, isZero, h0, hone0]
  · have hunits : funits x = fmag x := by
      have hm : fmag x ≤ 2 * 2 ^ binary32.frac := h.le.trans (by decide)
      simpa [funits] using unitsOf_shift_add binary32 (s := 0) (.inl rfl) hm
    have hvalue : fvalue x ≠ 0 := by
      rw [Ne, fvalue_eq_zero_iff]
      omega
    rw [fdiv_of_finite hone hfin hvalue, natAbs_fvalue, natAbs_fvalue, hsign, fround,
      roundMag_recip_of_tiny (hunits ▸ hpos) (hunits ▸ h), finf]

theorem finf_eq (neg : Bool) : finf neg = if neg = true then 0xFF800000 else 0x7F800000 := by
  cases neg <;> decide

/-- Settles O21: the commands by their lanes, a NaN by R409, and a tiny magnitude by the overflow of its
reciprocal. -/
theorem fourLaneOneOperandCommandsWriteVr : Obligations.FourLaneOneOperandCommandsWriteVr :=
  ⟨fun s => ⟨laneWise_vclamp.four s, laneWise_vtrunc.four s, laneWise_vrecip.four s⟩, by decide,
    by decide, by decide, by decide,
    fun x hx => (canonicalNanIff_fdiv _ x).eq_of (.inr (.inl hx)),
    fun x hx => (fdiv_one_of_tiny hx).trans (finf_eq _), by decide⟩

/-! ## Lane w of the three-lane commands (R430 to R437) -/

/-- The four-lane commands beside their three-lane forms. -/
theorem laneWise_of_mem {i4 i3 : Instr}
    (h : (i4, i3) ∈ [(Instr.vadd4, Instr.vadd3), (.vsub4, .vsub3), (.vmul4, .vmul3),
      (.vmadd4, .vmadd3), (.vnmsub4, .vnmsub3), (.vclamp4, .vclamp3), (.vtrunc4, .vtrunc3),
      (.vrecip4, .vrecip3)]) : ∃ f, LaneWise f i4 i3 := by
  simp only [List.mem_cons, Prod.mk.injEq, List.not_mem_nil, or_false] at h
  obtain ⟨rfl, rfl⟩ | ⟨rfl, rfl⟩ | ⟨rfl, rfl⟩ | ⟨rfl, rfl⟩ | ⟨rfl, rfl⟩ | ⟨rfl, rfl⟩ | ⟨rfl, rfl⟩ |
    ⟨rfl, rfl⟩ := h
  exacts [⟨_, laneWise_vadd⟩, ⟨_, laneWise_vsub⟩, ⟨_, laneWise_vmul⟩, ⟨_, laneWise_vmadd⟩,
    ⟨_, laneWise_vnmsub⟩, ⟨_, laneWise_vclamp⟩, ⟨_, laneWise_vtrunc⟩, ⟨_, laneWise_vrecip⟩]

/-- Settles O22: both forms apply one scalar operation, the three-lane one to x, y and z alone. -/
theorem threeLaneCommandsZeroLaneW : Obligations.ThreeLaneCommandsZeroLaneW := by
  intro s i4 i3 h
  obtain ⟨f, hlanes⟩ := laneWise_of_mem h
  exact ⟨⟨_, hlanes.four s, hlanes.three s⟩,
    fun _ _ _ => ⟨_, _, hlanes.three s, hlanes.three _, rfl⟩⟩

/-- Settles O23: the arm of VDOT3, and the examples by evaluation. -/
theorem dotProductSumsLeftToRight : Obligations.DotProductSumsLeftToRight :=
  ⟨fun _ => rfl, by decide, by decide, by decide⟩

end Sys2Proof.Primitives
end

section
/-! SUPPORT. The single-colour tables (41_single_color_tables.md R450 to R456, R466): the generator's
output is the listing, and the stored errors are exact and the least possible. -/

namespace Sys2Proof.Tables

open Sys2Proof Sys2Proof.Machine Sys2Proof.Window

/-! ## One orientation of a table as a column -/

def column (t : Lut) (o : Nat) : List LutTriple := t.toList.map fun e => orientation e o

theorem column_getElem? (t : Lut) (o : Nat) {v : Nat} (hv : v < 256) :
    (column t o)[v]? = some (orientation t[v] o) := by
  simp [column, hv]

/-- The generator's cell of a table triple. -/
def cellOf (t : LutTriple) : GenCell := (t.start.toNat, t.stop.toNat, t.error.toNat)

/-- The rows of R466 as one list: evaluating it needs no appending of arrays. -/
def rows5 : List LutEntry :=
  lut5Part0.toList ++ (lut5Part1.toList ++ (lut5Part2.toList ++ lut5Part3.toList))

def rows6 : List LutEntry :=
  lut6Part0.toList ++ (lut6Part1.toList ++ (lut6Part2.toList ++ lut6Part3.toList))

theorem column_lut5 (o : Nat) : column lut5 o = rows5.map fun e => orientation e o := by
  simp only [column, lut5, rows5, Vector.toList_append, List.append_assoc]

theorem column_lut6 (o : Nat) : column lut6 o = rows6.map fun e => orientation e o := by
  simp only [column, lut6, rows6, Vector.toList_append, List.append_assoc]

/-! ## The double loop of the generator (R454) -/

/-- Whether a value has been hit exactly. -/
def isHit (t : List GenCell) (v : Nat) : Bool := t[v]?.any fun c => c.2.2 == 0

theorem isHit_set {t : List GenCell} {v : Nat} (hv : v < t.length) (q : Nat × Nat) (w : Nat) :
    isHit (t.set v (q.1, q.2, 0)) w = (decide (v = w) || isHit t w) := by
  by_cases h : v = w
  · subst h
    simp [isHit, hv]
  · simp [isHit, h]

/-- What one pair does to the table: it takes the cell of its code unless that one is hit. -/
def takeHit (b o : Nat) (t : List GenCell) (q : Nat × Nat) : List GenCell :=
  if isHit t (orientationCode b o q.1 q.2) then t
  else t.set (orientationCode b o q.1 q.2) (q.1, q.2, 0)

theorem genHits_eq_foldl (b o : Nat) (pairs : List (Nat × Nat)) (t : List GenCell) :
    genHits b o pairs t = pairs.foldl (takeHit b o) t := by
  induction pairs generalizing t with
  | nil => rfl
  | cons q pairs ih =>
    rw [List.foldl_cons, genHits, takeHit, isHit]
    split
    · next heq => rw [ih, heq]; rfl
    · next hne =>
      rw [ih, if_neg]
      simp only [Option.any_eq_true, beq_iff_eq, not_exists, not_and]
      intro c hc h0
      exact hne c.1 c.2.1 (by rw [hc, ← h0])

@[simp] theorem takeHit_length (b o : Nat) (t : List GenCell) (q : Nat × Nat) :
    (takeHit b o t q).length = t.length := by
  unfold takeHit
  split <;> simp

theorem expandCode_lt (b q : Nat) : expandCode b q < 256 := Nat.mod_lt _ (by decide)

theorem orientationCode_lt (b o q1 q2 : Nat) : orientationCode b o q1 q2 < 256 := by
  have h1 := expandCode_lt b q1
  have h2 := expandCode_lt b q2
  unfold orientationCode
  split <;> omega

theorem isHit_takeHit {b o : Nat} {t : List GenCell} (ht : t.length = 256) (q : Nat × Nat) (w : Nat) :
    isHit (takeHit b o t q) w = (decide (orientationCode b o q.1 q.2 = w) || isHit t w) := by
  have hlt : orientationCode b o q.1 q.2 < t.length := ht ▸ orientationCode_lt ..
  unfold takeHit
  split
  · next h =>
    by_cases hw : orientationCode b o q.1 q.2 = w
    · rw [← hw, h, Bool.or_true]
    · simp [hw]
  · exact isHit_set hlt q w

/-! ## The same loop with the hit values held as the bits of a number -/

/-- The pairs that the loop keeps, each after the value it hits; `seen` has the bits of the values
hit before. -/
def firstHits (b o : Nat) : List (Nat × Nat) → Nat → List (Nat × Nat × Nat)
  | [], _ => []
  | q :: pairs, seen =>
    if seen.testBit (orientationCode b o q.1 q.2) then firstHits b o pairs seen
    else (orientationCode b o q.1 q.2, q) ::
      firstHits b o pairs (seen ||| 2 ^ orientationCode b o q.1 q.2)

/-- A table with the kept pairs entered. -/
def enterHits (hits : List (Nat × Nat × Nat)) (t : List GenCell) : List GenCell :=
  hits.foldl (fun t h => t.set h.1 (h.2.1, h.2.2, 0)) t

theorem genHits_eq_enterHits (b o : Nat) (pairs : List (Nat × Nat)) {t : List GenCell} {seen : Nat}
    (ht : t.length = 256) (hseen : ∀ v, seen.testBit v = isHit t v) :
    genHits b o pairs t = enterHits (firstHits b o pairs seen) t := by
  rw [genHits_eq_foldl]
  induction pairs generalizing t seen with
  | nil => rfl
  | cons q pairs ih =>
    have hlt : orientationCode b o q.1 q.2 < t.length := ht ▸ orientationCode_lt ..
    rw [List.foldl_cons, firstHits, takeHit, hseen]
    split
    · exact ih ht hseen
    · rw [enterHits, List.foldl_cons]
      refine ih (by simpa using ht) fun v => ?_
      rw [isHit_set hlt, Nat.testBit_or, Nat.testBit_two_pow, hseen, Bool.or_comm]

/-- The empty table of R454. -/
def emptyTable : List GenCell := List.replicate 256 (0, 0, 255)

theorem emptyTable_length : emptyTable.length = 256 := List.length_replicate

theorem isHit_emptyTable (v : Nat) : isHit emptyTable v = false := by
  rw [isHit, emptyTable, List.getElem?_replicate]
  split <;> rfl

theorem genOrientation_eq (b o : Nat) :
    genOrientation b o = genRelax 256 (enterHits (firstHits b o (genPairs b) 0) emptyTable) := by
  have hseen (v : Nat) : (0 : Nat).testBit v = isHit emptyTable v := by
    rw [Nat.zero_testBit, isHit_emptyTable]
  rw [genOrientation, ← emptyTable, genHits_eq_enterHits b o _ emptyTable_length hseen]

/-! ## The listing is the generator's output (R454, R466) -/

theorem genOrientation_lut5 {o : Nat} (ho : o < 2) :
    genOrientation 5 o = (column lut5 o).map cellOf := by
  rw [genOrientation_eq, column_lut5]
  obtain rfl | rfl : o = 0 ∨ o = 1 := by omega
  · decide +kernel
  · decide +kernel

theorem genOrientation_lut6 {o : Nat} (ho : o < 2) :
    genOrientation 6 o = (column lut6 o).map cellOf := by
  rw [genOrientation_eq, column_lut6]
  obtain rfl | rfl : o = 0 ∨ o = 1 := by omega
  · decide +kernel
  · decide +kernel

theorem row_cellOf (e : LutEntry) :
    row e.o0.start.toNat e.o0.stop.toNat e.o0.error.toNat e.o1.start.toNat e.o1.stop.toNat
      e.o1.error.toNat = e := by
  simp [row]

/-- A table is generated when its two columns are. -/
theorem gen_eq_toList {b : Nat} {t : Lut}
    (h : ∀ {o : Nat}, o < 2 → genOrientation b o = (column t o).map cellOf) : gen b = t.toList := by
  rw [gen, h (by decide), h (by decide), column, column, List.map_map, List.map_map,
    List.zipWith_map, List.zipWith_self]
  exact (List.map_congr_left fun e _ => row_cellOf e).trans (List.map_id _)

/-- Settles O36: each column by running the loop with the hit values in one number. -/
theorem tablesAreTheGeneratorsOutput : Obligations.TablesAreTheGeneratorsOutput :=
  ⟨gen_eq_toList genOrientation_lut5, gen_eq_toList genOrientation_lut6⟩

/-! ## Every reproduced code has error 0 (R455) -/

theorem isHit_foldl_takeHit {b o : Nat} (pairs : List (Nat × Nat)) {t : List GenCell}
    (ht : t.length = 256) {v : Nat}
    (h : isHit t v = true ∨ ∃ q ∈ pairs, orientationCode b o q.1 q.2 = v) :
    isHit (pairs.foldl (takeHit b o) t) v = true := by
  induction pairs generalizing t with
  | nil => simpa using h
  | cons q pairs ih =>
    refine ih (by simpa using ht) ?_
    rw [isHit_takeHit ht, Bool.or_eq_true, decide_eq_true_eq]
    obtain h | ⟨p, hp, hv⟩ := h
    · exact .inl (.inr h)
    · obtain rfl | hp := List.mem_cons.1 hp
      · exact .inl (.inl hv)
      · exact .inr ⟨p, hp, hv⟩

/-- A cell that is hit takes no neighbour's pair. -/
theorem genTake_of_hit {cell : GenCell} (h : cell.2.2 = 0) (neighbour : GenCell) :
    genTake cell neighbour = cell := by
  rw [genTake, if_neg (by omega)]

theorem isHit_genSweep (left : Option GenCell) {t : List GenCell} {v : Nat} (h : isHit t v = true) :
    isHit (genSweep left t) v = true := by
  induction t generalizing left v with
  | nil => exact h
  | cons cell rest ih =>
    unfold genSweep
    cases v with
    | zero =>
      have h0 : cell.2.2 = 0 := by simpa [isHit] using h
      cases rest <;> cases left <;> simpa [isHit, genTake_of_hit h0] using h0
    | succ v => exact ih _ h

theorem isHit_genRelax (fuel : Nat) {t : List GenCell} {v : Nat} (h : isHit t v = true) :
    isHit (genRelax fuel t) v = true := by
  induction fuel generalizing t with
  | zero => exact h
  | succ fuel ih =>
    rw [genRelax]
    split
    · exact h
    · exact ih (isHit_genSweep none h)

theorem isHit_genOrientation {b o q1 q2 : Nat} (h1 : q1 < 2 ^ b) (h2 : q2 < 2 ^ b) :
    isHit (genOrientation b o) (orientationCode b o q1 q2) = true := by
  rw [genOrientation, genHits_eq_foldl]
  refine isHit_genRelax _ (isHit_foldl_takeHit _ emptyTable_length (.inr ⟨(q1, q2), ?_, rfl⟩))
  simp [genPairs, h1, h2]

/-- A generated table stores error 0 for every code that a pair of endpoint codes reproduces. -/
theorem error_orientationCode {b o q1 q2 : Nat} {t : Lut}
    (h : genOrientation b o = (column t o).map cellOf) (h1 : q1 < 2 ^ b) (h2 : q2 < 2 ^ b) :
    (orientation (t[orientationCode b o q1 q2]'(orientationCode_lt ..)) o).error.toNat = 0 := by
  have hhit := isHit_genOrientation (o := o) h1 h2
  rwa [h, isHit, List.getElem?_map, column_getElem? t o (orientationCode_lt ..), Option.map_some,
    Option.any_some, beq_iff_eq] at hhit

/-! ## Neighbouring errors differ by at most 1, and errors are exact (R453, R455) -/

/-- What a column of b-bit codes is checked for, triple by triple: the codes fit, and the error is
exact and at most `bound`. -/
def ExactWithin (b o bound : Nat) (col : List LutTriple) : Prop :=
  ∀ p ∈ col.zipIdx, p.1.start.toNat < 2 ^ b ∧ p.1.stop.toNat < 2 ^ b ∧
    p.1.error.toNat =
      ((orientationCode b o p.1.start.toNat p.1.stop.toNat : Int) - (p.2 : Nat)).natAbs ∧
    p.1.error.toNat ≤ bound

theorem exactWithin_lut5 {o : Nat} (ho : o < 2) :
    ExactWithin 5 o (if o = 0 then 4 else 1) (column lut5 o) := by
  rw [column_lut5]
  unfold ExactWithin
  obtain rfl | rfl : o = 0 ∨ o = 1 := by omega
  · decide +kernel
  · decide +kernel

theorem exactWithin_lut6 {o : Nat} (ho : o < 2) :
    ExactWithin 6 o (if o = 0 then 2 else 1) (column lut6 o) := by
  rw [column_lut6]
  unfold ExactWithin
  obtain rfl | rfl : o = 0 ∨ o = 1 := by omega
  · decide +kernel
  · decide +kernel

/-- Neighbours in a list of errors differ by at most 1, which is what R454's `repeat` stops at. -/
def Smooth (errors : List Nat) : Prop := errors.IsChain fun x y => x ≤ y + 1 ∧ y ≤ x + 1

def columnErrors (t : Lut) (o : Nat) : List Nat := (column t o).map fun x => x.error.toNat

theorem smooth_lut5 {o : Nat} (ho : o < 2) : Smooth (columnErrors lut5 o) := by
  rw [columnErrors, column_lut5]
  unfold Smooth
  obtain rfl | rfl : o = 0 ∨ o = 1 := by omega
  · decide +kernel
  · decide +kernel

theorem smooth_lut6 {o : Nat} (ho : o < 2) : Smooth (columnErrors lut6 o) := by
  rw [columnErrors, column_lut6]
  unfold Smooth
  obtain rfl | rfl : o = 0 ∨ o = 1 := by omega
  · decide +kernel
  · decide +kernel

/-- Errors at a distance of d differ by at most d. -/
theorem Smooth.within {errors : List Nat} (h : Smooth errors) (d : Nat) {i : Nat}
    (hi : i + d < errors.length) :
    errors[i] ≤ errors[i + d] + d ∧ errors[i + d] ≤ errors[i] + d := by
  induction d with
  | zero => simp
  | succ d ih =>
    have hstep := List.isChain_iff_getElem.1 h (i + d) (by omega)
    have := ih (by omega)
    simp only [← Nat.add_assoc]
    omega

/-- No two errors of a smooth column differ by more than the distance of their values. -/
theorem Smooth.le_add_natAbs {errors : List Nat} (h : Smooth errors) {i j : Nat}
    (hi : i < errors.length) (hj : j < errors.length) :
    errors[i] ≤ errors[j] + ((j : Int) - i).natAbs := by
  obtain hij | hij := Nat.le_total i j
  · obtain ⟨d, rfl⟩ := Nat.exists_eq_add_of_le hij
    have := h.within d hj
    omega
  · obtain ⟨d, rfl⟩ := Nat.exists_eq_add_of_le hij
    have := h.within d hi
    omega

/-! ## The entries of the default tables -/

/-- What R453 and R455 say of the triple of orientation o for the value v. -/
structure StoredTriple (b o bound v : Nat) (x : LutTriple) : Prop where
  start_lt : x.start.toNat < 2 ^ b
  stop_lt : x.stop.toNat < 2 ^ b
  exact : x.error.toNat = ((orientationCode b o x.start.toNat x.stop.toNat : Int) - v).natAbs
  small : x.error.toNat ≤ bound
  least : ∀ q1 q2 : Nat, q1 < 2 ^ b → q2 < 2 ^ b →
    x.error.toNat ≤ ((orientationCode b o q1 q2 : Int) - v).natAbs

/-- The error of a code that a pair reproduces is 0, and the error of v is further off by at most the
distance from v. -/
theorem storedTriple_of_column {b o bound : Nat} {t : Lut}
    (hgen : genOrientation b o = (column t o).map cellOf)
    (hexact : ExactWithin b o bound (column t o)) (hsmooth : Smooth (columnErrors t o))
    {v : Nat} (hv : v < 256) : StoredTriple b o bound v (orientation t[v] o) := by
  have hmem : (orientation t[v] o, v) ∈ (column t o).zipIdx :=
    List.mk_mem_zipIdx_iff_getElem?.2 (column_getElem? t o hv)
  obtain ⟨hstart, hstop, herr, hsmall⟩ := hexact _ hmem
  refine ⟨hstart, hstop, herr, hsmall, fun q1 q2 h1 h2 => ?_⟩
  have hcode := orientationCode_lt b o q1 q2
  have hzero := error_orientationCode hgen h1 h2
  have hle := hsmooth.le_add_natAbs (i := v) (j := orientationCode b o q1 q2)
    (by simpa [columnErrors, column] using hv) (by simpa [columnErrors, column] using hcode)
  simp only [columnErrors, column, List.map_map, List.getElem_map, Function.comp_apply,
    Vector.getElem_toList, hzero, Nat.zero_add] at hle
  exact hle

theorem storedTriple_lut5 {o : Nat} (ho : o < 2) {v : Nat} (hv : v < 256) :
    StoredTriple 5 o (if o = 0 then 4 else 1) v (orientation lut5[v] o) :=
  storedTriple_of_column (genOrientation_lut5 ho) (exactWithin_lut5 ho) (smooth_lut5 ho) hv

theorem storedTriple_lut6 {o : Nat} (ho : o < 2) {v : Nat} (hv : v < 256) :
    StoredTriple 6 o (if o = 0 then 2 else 1) v (orientation lut6[v] o) :=
  storedTriple_of_column (genOrientation_lut6 ho) (exactWithin_lut6 ho) (smooth_lut6 ho) hv

/-- The bounds of R455 (3), by orientation. -/
theorem StoredTriple.small_o0 {b m n v : Nat} {e : LutEntry}
    (h : StoredTriple b 0 (if (0 : Nat) = 0 then m else n) v (orientation e 0)) :
    e.o0.error.toNat ≤ m := h.small

theorem StoredTriple.small_o1 {b m n v : Nat} {e : LutEntry}
    (h : StoredTriple b 1 (if (1 : Nat) = 0 then m else n) v (orientation e 1)) :
    e.o1.error.toNat ≤ n := h.small

/-- Settles O37, entry by entry from what the generator and the check of the columns say. -/
theorem tableEntriesAreOptimal : Obligations.TableEntriesAreOptimal := by
  have h5 {o v : Nat} (ho : o < 2) (hv : v < 256) := storedTriple_lut5 ho hv
  have h6 {o v : Nat} (ho : o < 2) (hv : v < 256) := storedTriple_lut6 ho hv
  unfold Obligations.TableEntriesAreOptimal
  generalize lut5 = t5 at h5 ⊢
  generalize lut6 = t6 at h6 ⊢
  exact fun v => ⟨fun o => ⟨(h5 o.isLt v.isLt).exact, (h6 o.isLt v.isLt).exact,
      (h5 o.isLt v.isLt).least, (h6 o.isLt v.isLt).least⟩,
    (h5 (by decide) v.isLt).small_o0, (h6 (by decide) v.isLt).small_o0,
    (h5 (by decide) v.isLt).small_o1, (h6 (by decide) v.isLt).small_o1⟩

/-! ## The ROM through the window (R456) -/

/-- The word of table t, value v and orientation o stands at its place in the ROM. -/
theorem regAt_lut {t v o : Nat} (ht : t < 2) (hv : v < 256) (ho : o < 2) :
    regAt (0x1000 + 0x800 * t + 8 * v + 4 * o) = .lut ⟨t, ht⟩ ⟨v, hv⟩ ⟨o, ho⟩ := by
  unfold regAt
  repeat rw [if_neg (by omega)]
  simp only [Reg.lut.injEq, Fin.ext_iff, Fin.val_ofNat]
  omega

theorem lutWord_eq_ofNat (x : LutTriple) :
    lutWord x = BitVec.ofNat 32 (x.start.toNat + x.stop.toNat * 2 ^ 8 + x.error.toNat * 2 ^ 16) := by
  have hword : (lutWord x).toNat = _ := wordOfBytes_toNat x.start x.stop x.error 0
  apply BitVec.eq_of_toNat_eq
  rw [hword, BitVec.toNat_ofNat]
  have := x.start.isLt
  have := x.stop.isLt
  have := x.error.isLt
  simp
  omega

/-- The registers of the ROM are not among those left open while BUSY. -/
theorem hostRead_lut (s : State) {t v o : Nat} (ht : t < 2) (hv : v < 256) (ho : o < 2) :
    hostRead (0x1000 + 0x800 * t + 8 * v + 4 * o) 4 s =
      .next (setReadData
        (lutWord (orientation ((if t = 0 then s.params.lut5 else s.params.lut6)[v]) o)) s) := by
  have hreg := regAt_lut ht hv ho
  have hopen : openWhileBusy (.lut ⟨t, ht⟩ ⟨v, hv⟩ ⟨o, ho⟩) = false := rfl
  rw [hostRead_current (by omega) (by omega) (by rw [hreg, hopen, Bool.and_false]), hreg]
  simp [readReg, lutEntry, Fin.ext_iff, Nat.mod_eq_of_lt hv]

/-- The examples of R456, read from the rows of R466. -/
theorem lutWord_examples :
    lutWord (orientation lut5[5] 0) = 0x00030001 ∧ lutWord (orientation lut6[7] 1) = 0x00010600 := by
  have h5 := column_getElem? lut5 0 (v := 5) (by decide)
  have h6 := column_getElem? lut6 1 (v := 7) (by decide)
  have hrow5 : (rows5.map fun e => orientation e 0)[5]? = some ⟨1, 0, 3⟩ := rfl
  have hrow6 : (rows6.map fun e => orientation e 1)[7]? = some ⟨0, 6, 1⟩ := rfl
  rw [column_lut5, hrow5] at h5
  rw [column_lut6, hrow6] at h6
  rw [← Option.some.inj h5, ← Option.some.inj h6]
  decide

theorem reset_lut5 : State.reset.params.lut5 = lut5 := rfl

theorem reset_lut6 : State.reset.params.lut6 = lut6 := rfl

/-- Settles O34: the offset picks the register, and its word holds the three bytes of the triple. -/
theorem lutWindowShowsTheTables : Obligations.LutWindowShowsTheTables := by
  obtain ⟨hword5, hword6⟩ := lutWord_examples
  refine ⟨fun s t v o ht ho hv => ?_, ?_, ?_⟩
  · rw [hostRead_lut s ht hv ho, lutWord_eq_ofNat]
    rfl
  · rw [hostRead_lut State.reset (t := 0) (v := 5) (o := 0) (by decide) (by decide) (by decide),
      if_pos rfl, reset_lut5, hword5]
    rfl
  · rw [hostRead_lut State.reset (t := 1) (v := 7) (o := 1) (by decide) (by decide) (by decide),
      if_neg one_ne_zero, reset_lut6, hword6]
    rfl

end Sys2Proof.Tables
end

section
/-! SUPPORT. The relative error of one rounding (00_scope.md R9), and with it the recovery of channels
and grid levels from their lanes (41_single_color_tables.md R460, 45_serializer.md R650, R651). -/

namespace Sys2Proof.Levels

open Sys2Proof Sys2Proof.Machine Sys2Proof.Statements Sys2Proof.Rounding Sys2Proof.Scalar

/-! ## The relative error of a rounding -/

/-- The pattern stands for the number r, which is not negative. -/
structure Stands (x : F32) (r : ℚ) : Prop where
  finite : finite x
  sign : fsign x = false
  value : (fvalue x : ℚ) = r * 2 ^ 149

/-- The pattern stands for a number within a relative 2^-24 of r. -/
def Near (x : F32) (r : ℚ) : Prop :=
  ∃ y, Stands x y ∧ r - r / 2 ^ 24 ≤ y ∧ y ≤ r + r / 2 ^ 24

/-- What lies neither in the subnormals nor near infinity is rounded to 24 significant bits. -/
theorem roundMag_relative {num den : Nat} (hden : 0 < den) (hlow : den * 2 ^ 23 ≤ num)
    (hhigh : num < den * 2 ^ 200) :
    roundMag binary32 num den < binary32.inf ∧
      2 ^ 24 * num ≤ 2 ^ 24 * (den * unitsOf binary32 (roundMag binary32 num den)) + num ∧
      2 ^ 24 * (den * unitsOf binary32 (roundMag binary32 num den)) ≤ 2 ^ 24 * num + num := by
  set s := (num / den).log2 - binary32.frac with hs
  obtain ⟨hshift, hlt⟩ := roundMag_shift_bounds binary32 num hden hs
  have hle : den * 2 ^ s * 2 ^ 23 ≤ num := by
    obtain h0 | hle := hshift
    · rwa [h0, pow_zero, Nat.mul_one]
    · exact hle
  have hden' : 0 < den * 2 ^ s := Nat.mul_pos hden (Nat.two_pow_pos s)
  have hq := le_roundEven hden' hle
  have hq' := roundEven_le hden' hlt
  obtain ⟨⟨hup, -⟩, ⟨hdown, -⟩⟩ := roundEven_bounds num hden'
  have hlog : s ≤ 176 := by
    have hquot : num / den < 2 ^ 200 := Nat.div_lt_of_lt_mul hhigh
    have hne : num / den ≠ 0 := (Nat.div_pos (by omega) hden).ne'
    have := (Nat.log2_lt hne).2 hquot
    simp only [binary32] at hs
    omega
  have hinf : roundUnbounded binary32 num den < binary32.inf := by
    rw [roundUnbounded, ← hs, Nat.shiftLeft_eq, binary32_inf]
    simp only [binary32] at hq' ⊢
    omega
  have hmag : roundMag binary32 num den = roundUnbounded binary32 num den :=
    min_eq_left hinf.le
  have hunits : den * unitsOf binary32 (roundUnbounded binary32 num den) =
      den * 2 ^ s * roundEven num (den * 2 ^ s) := by
    rw [roundUnbounded, ← hs, Nat.shiftLeft_eq, unitsOf_shift_add binary32 (.inr hq) hq']
    ring
  rw [Nat.mul_left_comm _ 2] at hup hdown
  exact ⟨hmag ▸ hinf, by rw [hmag, hunits]; omega, by rw [hmag, hunits]; omega⟩

theorem Stands.funits {x : F32} {r : ℚ} (h : Stands x r) : (funits x : ℚ) = r * 2 ^ 149 := by
  rw [← h.value, fvalue, h.sign, if_neg Bool.false_ne_true, Int.cast_natCast]

theorem Stands.nonneg {x : F32} {r : ℚ} (h : Stands x r) : 0 ≤ r := by
  have := h.funits ▸ Nat.cast_nonneg (α := ℚ) (Machine.funits x)
  linarith

theorem stands_fround {num den : Nat} {r : ℚ}
    (hinf : roundMag binary32 num den < binary32.inf)
    (hr : (unitsOf binary32 (roundMag binary32 num den) : ℚ) = r * 2 ^ 149) :
    Stands (fround false num den) r := by
  have hsign : fsign (fround false num den) = false := fsign_fround _ _ _
  refine ⟨by rwa [finite, fmag_fround, ← binary32_inf], hsign, ?_⟩
  rw [fvalue, hsign, if_neg Bool.false_ne_true, Int.cast_natCast, Machine.funits, fmag_fround, hr]

theorem near_fround {num den : Nat} {r : ℚ} (hden : 0 < den) (hr : (num : ℚ) = r * 2 ^ 149 * den)
    (hlow : r = 0 ∨ 1 / 2 ^ 126 ≤ r) (hhigh : r ≤ 2 ^ 50) : Near (fround false num den) r := by
  have hd : (0 : ℚ) < den := by exact_mod_cast hden
  obtain rfl | hlow := hlow
  · obtain rfl : num = 0 := by simpa using hr
    have hzero := roundMag_unitsOf binary32_frac_pos hden (Nat.zero_le binary32.inf)
    rw [unitsOf_zero, Nat.mul_zero] at hzero
    exact ⟨0, stands_fround (by rw [hzero]; decide) (by rw [hzero]; simp), by simp, by simp⟩
  · have hlow' : den * 2 ^ 23 ≤ num := by
      have : (den : ℚ) * 2 ^ 23 ≤ num := by rw [hr]; nlinarith
      exact_mod_cast this
    have hhigh' : num < den * 2 ^ 200 := by
      have : (num : ℚ) < den * 2 ^ 200 := by rw [hr]; nlinarith
      exact_mod_cast this
    obtain ⟨hinf, hdown, hup⟩ := roundMag_relative hden hlow' hhigh'
    generalize hu : unitsOf binary32 (roundMag binary32 num den) = u at hdown hup
    have hdown' : 2 ^ 24 * (r * 2 ^ 149) * den ≤ (2 ^ 24 * (u : ℚ) + r * 2 ^ 149) * den := by
      have := (Nat.cast_le (α := ℚ)).2 hdown
      push_cast [hr] at this
      linarith
    have hup' : 2 ^ 24 * (u : ℚ) * den ≤ (2 ^ 24 * (r * 2 ^ 149) + r * 2 ^ 149) * den := by
      have := (Nat.cast_le (α := ℚ)).2 hup
      push_cast [hr] at this
      linarith
    have := le_of_mul_le_mul_right hdown' hd
    have := le_of_mul_le_mul_right hup' hd
    exact ⟨u / 2 ^ 149, stands_fround hinf (by rw [hu]; field_simp), by linarith, by linarith⟩

/-! ## The operations on non-negative patterns -/

theorem productNegative_of_stands {a b : F32} {x y : ℚ} (ha : Stands a x) (hb : Stands b y) :
    productNegative a b = false := by
  rw [productNegative, ha.sign, hb.sign]
  rfl

theorem near_fmul {a b : F32} {x y : ℚ} (ha : Stands a x) (hb : Stands b y)
    (hlow : x * y = 0 ∨ 1 / 2 ^ 126 ≤ x * y) (hhigh : x * y ≤ 2 ^ 50) :
    Near (fmul a b) (x * y) := by
  rw [fmul_of_finite ha.finite hb.finite, productNegative_of_stands ha hb, Int.natAbs_mul,
    natAbs_fvalue, natAbs_fvalue]
  refine near_fround (by positivity) ?_ hlow hhigh
  push_cast [ha.funits, hb.funits]
  ring

theorem near_fdiv {a b : F32} {x y : ℚ} (ha : Stands a x) (hb : Stands b y) (hy : 0 < y)
    (hlow : x / y = 0 ∨ 1 / 2 ^ 126 ≤ x / y) (hhigh : x / y ≤ 2 ^ 50) :
    Near (fdiv a b) (x / y) := by
  have hpos : (0 : ℚ) < fvalue b := by rw [hb.value]; positivity
  have hne : fvalue b ≠ 0 := by exact_mod_cast hpos.ne'
  rw [fdiv_of_finite ha.finite hb.finite hne, productNegative_of_stands ha hb, natAbs_fvalue,
    natAbs_fvalue]
  refine near_fround ?_ ?_ hlow hhigh
  · rw [← natAbs_fvalue]
    exact Int.natAbs_pos.2 hne
  · push_cast [ha.funits, hb.funits]
    field_simp
    norm_num

theorem near_fadd {a b : F32} {x y : ℚ} (ha : Stands a x) (hb : Stands b y)
    (hlow : 1 / 2 ^ 126 ≤ x + y) (hhigh : x + y ≤ 2 ^ 50) : Near (fadd a b) (x + y) := by
  have hsum : (fvalue a + fvalue b : ℚ) = (x + y) * 2 ^ 149 := by rw [ha.value, hb.value]; ring
  have hpos : 0 < fvalue a + fvalue b := by
    have : (0 : ℚ) < fvalue a + fvalue b := by rw [hsum]; linarith
    exact_mod_cast this
  rw [fadd_of_finite ha.finite hb.finite, froundSum_of_ne_zero hpos.ne', nearest,
    decide_eq_false hpos.le.not_gt]
  refine near_fround Nat.one_pos ?_ (.inr hlow) hhigh
  rw [Nat.cast_natAbs, abs_of_pos hpos]
  push_cast
  rw [hsum, mul_one]

/-! ## Conversion to an integer (R650) -/

theorem toInt_of_stands {x : F32} {r : ℚ} {q : Nat} (h : Stands x r) (hlow : (q : ℚ) ≤ r)
    (hhigh : r < q + 1) : toInt x = q := by
  have hdiv : Machine.funits x / 2 ^ 149 = q := by
    refine Nat.div_eq_of_lt_le ?_ ?_
    · have : (q : ℚ) * 2 ^ 149 ≤ Machine.funits x := by rw [h.funits]; linarith
      exact_mod_cast this
    · have : (Machine.funits x : ℚ) < (q + 1) * 2 ^ 149 := by rw [h.funits]; linarith
      exact_mod_cast this
  rw [toInt, isNaN_of_finite h.finite, isInf_of_finite h.finite, h.sign, hdiv]
  rfl

theorem stands_cHalf : Stands cHalf (1 / 2) := by
  have hvalue : fvalue cHalf = 2 ^ 148 := by decide
  exact ⟨by rw [finite]; decide, by decide, by rw [hvalue]; norm_num⟩

/-- A value within an eighth of a level is clamped to the level. -/
theorem clampToLimit_of_stands {x : F32} {r : ℚ} {q limit : Nat} (h : Stands x r)
    (hlow : (q : ℚ) - 1 / 8 ≤ r) (hhigh : r ≤ q + 1 / 8) (hq : q ≤ limit) (hlimit : limit ≤ 255) :
    clampToLimit x limit = q := by
  have hr := h.nonneg
  have hq' : (q : ℚ) ≤ 255 := by exact_mod_cast hq.trans hlimit
  obtain ⟨y, hy, hy1, hy2⟩ := near_fadd h stands_cHalf (by linarith) (by linarith)
  have hint : toInt (fadd x cHalf) = q := toInt_of_stands hy (by linarith) (by linarith)
  unfold clampToLimit
  dsimp only
  rw [hint]
  split_ifs <;> omega

/-! ## The lanes of channels and levels (R460, R651) -/

theorem stands_f32OfNat {n : Nat} (h : n ≤ 2 ^ 24) : Stands (f32OfNat n) n := by
  obtain ⟨hfin, hvalue⟩ := f32OfNat_exact h
  exact ⟨hfin, fsign_fround _ _ _, by rw [hvalue]; push_cast; rfl⟩

theorem stands_const {x : F32} {n : Nat} (hmag : fmag x < 0x7F800000) (hsign : fsign x = false)
    (hvalue : fvalue x = n * 2 ^ 149) : Stands x n :=
  ⟨hmag, hsign, by rw [hvalue]; push_cast; rfl⟩

theorem stands_c31 : Stands c31 (31 : Nat) := stands_const (by decide) (by decide) (by decide)

theorem stands_c63 : Stands c63 (63 : Nat) := stands_const (by decide) (by decide) (by decide)

theorem stands_c255 : Stands c255 (255 : Nat) := stands_const (by decide) (by decide) (by decide)

/-- A level, or a part of it, is 0 or far from the subnormals. -/
theorem zero_or_le_of_level {q : Nat} {x : ℚ} (hlow : (q : ℚ) / 2 ^ 10 ≤ x)
    (hhigh : x ≤ (q : ℚ) * 2 ^ 10) : x = 0 ∨ 1 / 2 ^ 126 ≤ x := by
  obtain rfl | hpos := Nat.eq_zero_or_pos q
  · exact .inl (le_antisymm (by simpa using hhigh) (by simpa using hlow))
  · have : (1 : ℚ) ≤ q := by exact_mod_cast hpos
    exact .inr (by linarith)

/-- A lane near r, the g-th part of the level q up to a rounding, gives q back. -/
theorem clampToLimit_fmul {c x : F32} {g q : Nat} {r : ℚ} (hc : Stands c g) (hx : Near x r)
    (hg : g ≤ 255) (hq : q ≤ g) (hlow : q - q / 2 ^ 24 ≤ g * r) (hhigh : g * r ≤ q + q / 2 ^ 24) :
    clampToLimit (fmul c x) g = q := by
  have hq0 : (0 : ℚ) ≤ q := Nat.cast_nonneg q
  have hq255 : (q : ℚ) ≤ 255 := by exact_mod_cast hq.trans hg
  obtain ⟨y, hy, hy1, hy2⟩ := hx
  have h1 := mul_le_mul_of_nonneg_left hy1 (Nat.cast_nonneg (α := ℚ) g)
  have h2 := mul_le_mul_of_nonneg_left hy2 (Nat.cast_nonneg (α := ℚ) g)
  obtain ⟨z, hz, hz1, hz2⟩ :=
    near_fmul hc hy (zero_or_le_of_level (q := q) (by linarith) (by linarith)) (by linarith)
  exact clampToLimit_of_stands hz (by linarith) (by linarith) hq hg

/-- R461, R502: the lane is the level divided by the grid. -/
theorem clampToLimit_fmul_fdiv {c : F32} {g q : Nat} (hc : Stands c g) (hg : g ≤ 255) (hq : q ≤ g)
    (hpos : 0 < g) : clampToLimit (fmul c (fdiv (f32OfNat q) c)) g = q := by
  have hg0 : (0 : ℚ) < g := by exact_mod_cast hpos
  have hg255 : (g : ℚ) ≤ 255 := by exact_mod_cast hg
  have hq0 : (0 : ℚ) ≤ q := Nat.cast_nonneg q
  have hqg : (q : ℚ) ≤ g := by exact_mod_cast hq
  have hmul : (g : ℚ) * (q / g) = q := by field_simp
  have hlow : (q : ℚ) / 2 ^ 10 ≤ q / g := div_le_div_of_nonneg_left hq0 hg0 (by linarith)
  have hone : (q : ℚ) / g ≤ 1 := (div_le_one hg0).2 hqg
  have hhigh : (q : ℚ) / g ≤ q * 2 ^ 10 := by
    have : (1 : ℚ) ≤ g := by exact_mod_cast hpos
    have := div_le_self hq0 this
    linarith
  exact clampToLimit_fmul hc
    (near_fdiv (stands_f32OfNat (by omega)) hc hg0 (zero_or_le_of_level hlow hhigh) (by linarith))
    hg hq (by linarith) (by linarith)

/-- R553, R607: the lane is the level times the grid's rounded reciprocal. -/
theorem clampToLimit_fmul_fmul {c rc : F32} {g q : Nat} {r : ℚ} (hc : Stands c g) (hrc : Stands rc r)
    (hg : g ≤ 255) (hq : q ≤ g) (hpos : 0 < g) (hlow : 1 - 1 / 2 ^ 24 ≤ g * r)
    (hhigh : g * r ≤ 1 + 1 / 2 ^ 24) : clampToLimit (fmul c (fmul (f32OfNat q) rc)) g = q := by
  have hq0 : (0 : ℚ) ≤ q := Nat.cast_nonneg q
  have hq255 : (q : ℚ) ≤ 255 := by exact_mod_cast hq.trans hg
  have hg1 : (1 : ℚ) ≤ g := by exact_mod_cast hpos
  have hg255 : (g : ℚ) ≤ 255 := by exact_mod_cast hg
  have hmul : q * (g * r) = g * (q * r) := by ring
  have h1 := mul_le_mul_of_nonneg_left hlow hq0
  have h2 := mul_le_mul_of_nonneg_left hhigh hq0
  have h3 := mul_le_mul_of_nonneg_right hg1 (mul_nonneg hq0 hrc.nonneg)
  have h4 := mul_le_mul_of_nonneg_right hg255 (mul_nonneg hq0 hrc.nonneg)
  exact clampToLimit_fmul hc
    (near_fmul (stands_f32OfNat (by omega)) hrc
      (zero_or_le_of_level (q := q) (by linarith) (by linarith)) (by linarith))
    hg hq (by linarith) (by linarith)

theorem stands_cRcp31 : Stands cRcp31 (8659208 / 2 ^ 28) := by
  have hvalue : fvalue cRcp31 = 8659208 * 2 ^ 121 := by decide
  exact ⟨by unfold finite; decide, by decide, by rw [hvalue]; norm_num⟩

theorem stands_cRcp63 : Stands cRcp63 (8521761 / 2 ^ 29) := by
  have hvalue : fvalue cRcp63 = 8521761 * 2 ^ 120 := by decide
  exact ⟨by unfold finite; decide, by decide, by rw [hvalue]; norm_num⟩

/-- R460: a point's lane gives its channel back. -/
theorem channelOf_fdiv {v : Nat} (h : v ≤ 255) :
    channelOf (fdiv (f32OfNat v) c255) = BitVec.ofNat 8 v :=
  congrArg (BitVec.ofNat 8) (clampToLimit_fmul_fdiv stands_c255 (by decide) h (by decide))

/-! ## Packed colours (R310, R651) -/

theorem clampToLimit_le (x : F32) (limit : Nat) : clampToLimit x limit ≤ limit := by
  unfold clampToLimit
  dsimp only
  split_ifs <;> omega

theorem pack565_toNat {r g b : Nat} (hr : r ≤ 31) (hg : g ≤ 63) (hb : b ≤ 31) :
    (pack565 r g b).toNat = 2048 * r + 32 * g + b := by
  rw [pack565]
  repeat rw [BitVec.toNat_append, ← Nat.shiftLeft_add_eq_or_of_lt (BitVec.isLt _)]
  simp only [BitVec.toNat_ofNat, Nat.shiftLeft_eq]
  omega

/-- Settles O38: three roundings move a level by less than an eighth, and truncation after adding a
half takes it back. -/
theorem quantisedLanesRecoverTheirLevels : Obligations.QuantisedLanesRecoverTheirLevels :=
  ⟨fun v => channelOf_fdiv (by omega),
    fun q => ⟨clampToLimit_fmul_fmul stands_c31 stands_cRcp31 (by decide) (by omega) (by decide)
        (by norm_num) (by norm_num),
      clampToLimit_fmul_fdiv stands_c31 (by decide) (by omega) (by decide)⟩,
    fun q => ⟨clampToLimit_fmul_fmul stands_c63 stands_cRcp63 (by decide) (by omega) (by decide)
        (by norm_num) (by norm_num),
      clampToLimit_fmul_fdiv stands_c63 (by decide) (by omega) (by decide)⟩,
    fun _ => pack565_toNat (clampToLimit_le _ _) (clampToLimit_le _ _) (clampToLimit_le _ _)⟩

end Sys2Proof.Levels
end

section
/-! SUPPORT. Blocks of one colour: the colour-set builder finds one point (42_color_set_builder.md R501),
the single-colour fit takes the better orientation (41_single_color_tables.md R461, R462), and the block
decodes to the codes its table triples stand for (R463). -/

namespace Sys2Proof.SolidBlocks

open Sys2Proof Sys2Proof.Machine Sys2Proof.Statements Sys2Proof.Scalar Sys2Proof.Tables
  Sys2Proof.Levels

/-! ## The builder on one colour (R501) -/

theorem isNaN_fdiv_c255 {n : Nat} (h : n ≤ 2 ^ 24) : isNaN (fdiv (f32OfNat n) c255) = false := by
  rw [fdiv_of_finite (f32OfNat_exact h).1 stands_c255.finite (by decide), isNaN_fround]

theorem feq_channel (c : Byte) :
    feq (fdiv (f32OfNat c.toNat) c255) (fdiv (f32OfNat c.toNat) c255) = true := by
  have hnan : isNaN (fdiv (f32OfNat c.toNat) c255) = false := isNaN_fdiv_c255 (by omega)
  exact (feq_iff hnan hnan).2 rfl

/-- A point list with one point, of colour c. -/
def OnePoint (c : V3) (pts : List V4) : Prop := ∃ w, pts = [⟨c.x, c.y, c.z, w⟩]

/-- A pixel of the colour found so far joins the point. -/
theorem addPoint_onePoint (px : Word) (w : F32) {pts : List V4}
    (hpts : pts = [] ∨ OnePoint (pointOf px) pts) :
    OnePoint (pointOf px) (addPoint (pointOf px) w pts 0).1 ∧
      (addPoint (pointOf px) w pts 0).2 = 0 := by
  obtain rfl | ⟨w0, rfl⟩ := hpts
  · exact ⟨⟨w, rfl⟩, rfl⟩
  · have hsame : samePoint ⟨(pointOf px).x, (pointOf px).y, (pointOf px).z, w0⟩ (pointOf px) = true := by
      simp [samePoint, pointOf, feq_channel]
    rw [addPoint, if_pos hsame]
    exact ⟨⟨_, rfl⟩, rfl⟩

theorem scanSlots_cons_of_makes {l : Latch} {mode : BuilderMode} {s : Slot}
    (h : makesPoint l mode s = true) (wa : Bool) (ss : List Slot) (pts : List V4) :
    scanSlots l mode wa (s :: ss) pts =
      let a := addPoint (pointOf (slotPixel l s)) (pixelWeight wa (slotPixel l s)) pts 0
      ((scanSlots l mode wa ss a.1).1, some a.2 :: (scanSlots l mode wa ss a.1).2) := by
  rw [scanSlots, if_pos h]

theorem scanSlots_cons_of_not_makes {l : Latch} {mode : BuilderMode} {s : Slot}
    (h : ¬ makesPoint l mode s = true) (wa : Bool) (ss : List Slot) (pts : List V4) :
    scanSlots l mode wa (s :: ss) pts =
      ((scanSlots l mode wa ss pts).1, none :: (scanSlots l mode wa ss pts).2) := by
  rw [scanSlots, if_neg h]

/-- The Map entry of a slot in a block of one colour. -/
def solidEntry (l : Latch) (mode : BuilderMode) (s : Slot) : Option Nat :=
  if makesPoint l mode s then some 0 else none

theorem scanSlots_solid {l : Latch} {mode : BuilderMode} (wa : Bool) {c : V3} (ss : List Slot)
    {pts : List V4} (hpts : pts = [] ∨ OnePoint c pts)
    (hc : ∀ s, makesPoint l mode s = true → pointOf (slotPixel l s) = c) :
    (OnePoint c pts ∨ (∃ s ∈ ss, makesPoint l mode s = true) →
      OnePoint c (scanSlots l mode wa ss pts).1) ∧
    (scanSlots l mode wa ss pts).2 = ss.map (solidEntry l mode) := by
  induction ss generalizing pts with
  | nil => simp [scanSlots]
  | cons s ss ih =>
    rw [List.map_cons, solidEntry]
    split
    · next hs =>
      obtain ⟨hone, hnum⟩ := addPoint_onePoint (slotPixel l s) (pixelWeight wa (slotPixel l s))
        (by rwa [hc s hs])
      rw [scanSlots_cons_of_makes hs]
      rw [hc s hs] at hone hnum ⊢
      obtain ⟨hpoints, hmap⟩ := ih (.inr hone)
      exact ⟨fun _ => hpoints (.inl hone), by simp only [hnum, hmap]⟩
    · next hs =>
      obtain ⟨hpoints, hmap⟩ := ih hpts
      rw [scanSlots_cons_of_not_makes hs, hmap]
      exact ⟨fun h => hpoints (by simpa [hs] using h), rfl⟩

/-- A block whose point-making slots have one colour. -/
theorem colourSet_solid {l : Latch} {mode : BuilderMode} (wa : Bool) {c : V3}
    (hsome : ∃ s, makesPoint l mode s = true)
    (hc : ∀ s, makesPoint l mode s = true → pointOf (slotPixel l s) = c) :
    OnePoint c (colourSet l mode wa).points ∧
      ∀ s, makesPoint l mode s = true → (colourSet l mode wa).map[s.val]? = some (some 0) := by
  obtain ⟨hpoints, hmap⟩ := scanSlots_solid wa slots (.inl rfl) hc
  have hslots : ∀ s : Slot, slots[s.val]? = some s := by decide
  constructor
  · obtain ⟨s, hs⟩ := hsome
    obtain ⟨w, hw⟩ := hpoints (.inr ⟨s, List.mem_of_getElem? (hslots s), hs⟩)
    exact ⟨fsqrt w, by rw [colourSet, hw]; rfl⟩
  · intro s hs
    simp [colourSet, hmap, hslots, solidEntry, hs]

/-! ## What the serializer writes decodes to (R653, R752) -/

/-- The bytes of a packed colour. -/
theorem append_bytes (x : BitVec 16) : x.extractLsb' 8 8 ++ x.extractLsb' 0 8 = x := by
  apply BitVec.eq_of_toNat_eq
  rw [BitVec.toNat_append, ← Nat.shiftLeft_add_eq_or_of_lt (BitVec.isLt _)]
  simp only [BitVec.extractLsb'_toNat, Nat.shiftLeft_eq, Nat.shiftRight_eq_div_pow]
  omega

@[simp] theorem color0_serializePacked (a b : BitVec 16) (idx : List (BitVec 2)) :
    color0 (serializePacked a b idx) = if a < b then b else a := append_bytes _

@[simp] theorem color1_serializePacked (a b : BitVec 16) (idx : List (BitVec 2)) :
    color1 (serializePacked a b idx) = if a < b then a else b := append_bytes _

theorem rowByte_extract (idx : List (BitVec 2)) (r : Nat) {c : Nat} (hc : c < 4) :
    (rowByte idx r).extractLsb' (2 * c) 2 = idx.getD (4 * r + c) 0 := by
  rw [rowByte]
  interval_cases c
  all_goals
    generalize idx.getD _ 0 = x3, idx.getD _ 0 = x2, idx.getD _ 0 = x1, idx.getD _ 0 = x0
    apply BitVec.eq_of_toNat_eq
    rw [BitVec.extractLsb'_toNat]
    repeat rw [BitVec.toNat_append, ← Nat.shiftLeft_add_eq_or_of_lt (BitVec.isLt _)]
    simp only [Nat.shiftLeft_eq, Nat.shiftRight_eq_div_pow]
    omega

theorem storedIndex_serializePacked (a b : BitVec 16) (idx : List (BitVec 2)) (s : Slot) :
    storedIndex (serializePacked a b idx) s = (idx.map (orderedIndex a b)).getD s.val 0 := by
  have hrow : ∀ r (hr : r < 4),
      (serializePacked a b idx)[4 + r] = rowByte (idx.map (orderedIndex a b)) r := by
    intro r hr
    interval_cases r <;> rfl
  rw [storedIndex, hrow _ (by omega), rowByte_extract _ _ (by omega), Nat.div_add_mod]

theorem unpack565_alpha (c : BitVec 16) : (unpack565 c).a = 255 := rfl

/-- The 1/3 interpolant of a colour and itself is the colour. -/
theorem blend_self {p : Rgba} (h : p.a = 255) : blend (fun x y => (2 * x + y) / 3) p p = p := by
  have hthird (x : Nat) : (2 * x + x) / 3 = x := by omega
  cases p
  simp_all [blend]

/-- The other order of the endpoints exchanges the weights. -/
theorem blend_swap (p q : Rgba) :
    blend (fun x y => (x + 2 * y) / 3) p q = blend (fun x y => (2 * x + y) / 3) q p := by
  simp [blend, Nat.add_comm]

/-- The colour that orientation o of packed endpoints a and b stands for: the first endpoint, or the
1/3 interpolant (R451). -/
def orientedColour (o : Nat) (a b : BitVec 16) : Rgba :=
  if o = 0 then unpack565 a else blend (fun x y => (2 * x + y) / 3) (unpack565 a) (unpack565 b)

/-- Whatever order the serializer puts the endpoints in, index 2*o decodes to that colour. -/
theorem decodeColour_serializePacked (a b : BitVec 16) {idx : List (BitVec 2)} {s : Slot} {o : Nat}
    (ho : o = 0 ∨ o = 1) (hs : idx[s.val]? = some (BitVec.ofNat 2 (2 * o))) :
    decodeColour .dxt1 (serializePacked a b idx) s = orientedColour o a b := by
  have hidx : storedIndex (serializePacked a b idx) s =
      orderedIndex a b (BitVec.ofNat 2 (2 * o)) := by
    rw [storedIndex_serializePacked, List.getD_eq_getElem?_getD, List.getElem?_map, hs]
    rfl
  rw [decodeColour, hidx, color0_serializePacked, color1_serializePacked, orderedIndex]
  by_cases hlt : a < b
  · have hfour : fourColours .dxt1 b a = true := by simp [fourColours, hlt]
    rw [if_pos hlt, if_pos hlt, if_pos hlt]
    obtain rfl | rfl := ho
    · rfl
    · simp [paletteColour, hfour, orientedColour, blend_swap]
  by_cases heq : a = b
  · rw [if_neg hlt, if_neg hlt, if_neg hlt, if_pos heq, ← heq]
    obtain rfl | rfl := ho
    · rfl
    · simp [paletteColour, orientedColour, blend_self (unpack565_alpha a)]
  · have hfour : fourColours .dxt1 a b = true := by
      have hgt : b < a := by bv_omega
      simp [fourColours, hgt]
    rw [if_neg hlt, if_neg hlt, if_neg hlt, if_neg heq]
    obtain rfl | rfl := ho
    · rfl
    · simp [paletteColour, hfour, orientedColour]

/-! ## The codes of the tables through the endpoints (R461, R463) -/

theorem colorTo565_codes {r g b : Nat} (hr : r ≤ 31) (hg : g ≤ 63) (hb : b ≤ 31) :
    colorTo565 ⟨fdiv (f32OfNat r) c31, fdiv (f32OfNat g) c63, fdiv (f32OfNat b) c31⟩ =
      pack565 r g b := by
  rw [colorTo565, clampToLimit_fmul_fdiv stands_c31 (by decide) hr (by decide),
    clampToLimit_fmul_fdiv stands_c63 (by decide) hg (by decide),
    clampToLimit_fmul_fdiv stands_c31 (by decide) hb (by decide)]

theorem unpack565_pack565 {r g b : Nat} (hr : r ≤ 31) (hg : g ≤ 63) (hb : b ≤ 31) :
    unpack565 (pack565 r g b) = ⟨expand5 r, expand6 g, expand5 b, 255⟩ := by
  have hfield (start len q : Nat) (h : (2048 * r + 32 * g + b) / 2 ^ start % 2 ^ len = q) :
      ((pack565 r g b).extractLsb' start len).toNat = q := by
    rw [BitVec.extractLsb'_toNat, pack565_toNat hr hg hb, Nat.shiftRight_eq_div_pow, h]
  rw [unpack565, hfield 11 5 r (by omega), hfield 5 6 g (by omega), hfield 0 5 b (by omega)]

theorem expandCode_five {q : Nat} (h : q ≤ 31) : expandCode 5 q = expand5 q := by
  have hall : ∀ q : Fin 32, expandCode 5 q = expand5 q := by decide
  exact hall ⟨q, by omega⟩

theorem expandCode_six {q : Nat} (h : q ≤ 63) : expandCode 6 q = expand6 q := by
  have hall : ∀ q : Fin 64, expandCode 6 q = expand6 q := by decide
  exact hall ⟨q, by omega⟩

theorem orientedColour_pack565 {o r1 g1 b1 r2 g2 b2 : Nat}
    (hr1 : r1 ≤ 31) (hg1 : g1 ≤ 63) (hb1 : b1 ≤ 31) (hr2 : r2 ≤ 31) (hg2 : g2 ≤ 63) (hb2 : b2 ≤ 31) :
    orientedColour o (pack565 r1 g1 b1) (pack565 r2 g2 b2) =
      ⟨orientationCode 5 o r1 r2, orientationCode 6 o g1 g2, orientationCode 5 o b1 b2, 255⟩ := by
  rw [orientedColour, unpack565_pack565 hr1 hg1 hb1, unpack565_pack565 hr2 hg2 hb2]
  simp only [orientationCode, expandCode_five hr1, expandCode_five hb1, expandCode_five hr2,
    expandCode_five hb2, expandCode_six hg1, expandCode_six hg2]
  split <;> rfl

/-! ## The single-colour fit (R461, R462) -/

theorem chosenOrientation_cases (p : Params) (pt : V4) :
    chosenOrientation p pt = 0 ∨ chosenOrientation p pt = 1 := by
  unfold chosenOrientation
  split
  · exact .inr rfl
  · exact .inl rfl

theorem chosenOrientation_eq_one_iff (p : Params) (pt : V4) :
    chosenOrientation p pt = 1 ↔
      sourcesError (sourcesOf p pt 1) < sourcesError (sourcesOf p pt 0) ∨
        (p.scTie = .second ∧ sourcesError (sourcesOf p pt 1) = sourcesError (sourcesOf p pt 0)) := by
  unfold chosenOrientation orientationOneWins
  cases p.scTie with
  | second =>
    simp
    omega
  | first => simp

/-- The error of the orientation that is taken is the smaller one. -/
theorem chosenError_eq_min (p : Params) (pt : V4) :
    chosenError p pt = min (sourcesError (sourcesOf p pt 0)) (sourcesError (sourcesOf p pt 1)) := by
  have hone := chosenOrientation_eq_one_iff p pt
  obtain h | h := chosenOrientation_cases p pt
  · rw [chosenError, h, min_eq_left]
    simp only [h, zero_ne_one, false_iff, not_or] at hone
    omega
  · rw [chosenError, h, min_eq_right]
    have := hone.1 h
    omega

theorem remapIndices_getElem? (map : List (Option Nat)) (src : List (BitVec 2)) (i : Nat) :
    (remapIndices map src)[i]? = map[i]?.map fun m => m.elim 3 fun n => src.getD n 0 := by
  rw [remapIndices, List.getElem?_map]
  congr 1
  funext m
  cases m <;> rfl

/-! ## The decoded colour of a block of one colour (R463) -/

/-- The triple of a channel value in the default LUT5. -/
theorem storedTriple_lutEntry5 {o : Nat} (ho : o < 2) (v : Byte) :
    StoredTriple 5 o (if o = 0 then 4 else 1) v.toNat (orientation (lutEntry lut5 v) o) :=
  storedTriple_lut5 ho v.isLt

theorem storedTriple_lutEntry6 {o : Nat} (ho : o < 2) (v : Byte) :
    StoredTriple 6 o (if o = 0 then 2 else 1) v.toNat (orientation (lutEntry lut6 v) o) :=
  storedTriple_lut6 ho v.isLt

/-- With the default tables a slot of the point decodes at the reported distance from its colour. -/
theorem colourDistance_singleColourFit {p : Params} (h5 : p.lut5 = lut5) (h6 : p.lut6 = lut6)
    (pt : V4) {map : List (Option Nat)} {s : Slot} (hs : map[s.val]? = some (some 0)) :
    colourDistance (decodeColour .dxt1 (serializeFit (singleColourFit p pt map)) s)
      (channelOf pt.x).toNat (channelOf pt.y).toNat (channelOf pt.z).toNat = chosenError p pt := by
  have ho := chosenOrientation_cases p pt
  have hlt : chosenOrientation p pt < 2 := by omega
  have hr := storedTriple_lutEntry5 hlt (channelOf pt.x)
  have hg := storedTriple_lutEntry6 hlt (channelOf pt.y)
  have hb := storedTriple_lutEntry5 hlt (channelOf pt.z)
  rw [← h5] at hr hb
  rw [← h6] at hg
  rw [chosenError, singleColourFit, serializeFit, serialize]
  simp only [sourcesOf]
  generalize chosenOrientation p pt = o at *
  generalize orientation (lutEntry p.lut5 (channelOf pt.x)) o = tr at *
  generalize orientation (lutEntry p.lut6 (channelOf pt.y)) o = tg at *
  generalize orientation (lutEntry p.lut5 (channelOf pt.z)) o = tb at *
  have hr1 := hr.start_lt; have hr2 := hr.stop_lt
  have hg1 := hg.start_lt; have hg2 := hg.stop_lt
  have hb1 := hb.start_lt; have hb2 := hb.stop_lt
  rw [colorTo565_codes (by omega) (by omega) (by omega),
    colorTo565_codes (by omega) (by omega) (by omega),
    decodeColour_serializePacked _ _ ho (by rw [remapIndices_getElem?, hs]; rfl),
    orientedColour_pack565 (by omega) (by omega) (by omega) (by omega) (by omega) (by omega)]
  rw [sourcesError, hr.exact, hg.exact, hb.exact, colourDistance]

/-! ## ENC_DXT1 on a block of one colour -/

/-- Channel k of a pixel as a byte and as a number. -/
theorem byteOfWord_toNat (p : Word) (k : Nat) : (byteOfWord p k).toNat = channelNat p k := by
  rw [byteOfWord, BitVec.extractLsb'_toNat, channelNat, Nat.shiftRight_eq_div_pow, pow_mul]
  rfl

/-- The fit recovers the channels of a point's colour (R460). -/
theorem channelOf_pointOf (p : Word) :
    (channelOf (pointOf p).x).toNat = channelNat p 0 ∧
    (channelOf (pointOf p).y).toNat = channelNat p 1 ∧
    (channelOf (pointOf p).z).toNat = channelNat p 2 := by
  have hrecover (c : Byte) : channelOf (fdiv (f32OfNat c.toNat) c255) = c := by
    rw [channelOf_fdiv (by omega), BitVec.ofNat_toNat, BitVec.setWidth_eq]
  refine ⟨?_, ?_, ?_⟩
  · rw [← byteOfWord_toNat]
    exact congrArg BitVec.toNat (hrecover (pixR p))
  · rw [← byteOfWord_toNat]
    exact congrArg BitVec.toNat (hrecover (pixG p))
  · rw [← byteOfWord_toNat]
    exact congrArg BitVec.toNat (hrecover (pixB p))

/-- Pixels of one colour give one point. -/
theorem pointOf_eq_of_channels {p q : Word} (h0 : channelNat p 0 = channelNat q 0)
    (h1 : channelNat p 1 = channelNat q 1) (h2 : channelNat p 2 = channelNat q 2) :
    pointOf p = pointOf q := by
  rw [← byteOfWord_toNat, ← byteOfWord_toNat] at h0 h1 h2
  simp only [pointOf, pixR, pixG, pixB, h0, h1, h2]

/-- R501: which slots make a point in the two modes of ENC_DXT1. -/
theorem makesPoint_iff (l : Latch) (a1 : Bool) (s : Slot) :
    makesPoint l (if a1 then .dxt1a else .dxt1) s = true ↔
      slotValid l s = true ∧ (a1 = true → 128 ≤ channelNat (slotPixel l s) 3) := by
  have halpha : (pixA (slotPixel l s)).toNat = channelNat (slotPixel l s) 3 := byteOfWord_toNat _ 3
  cases a1 <;> simp [makesPoint, halpha]

/-- One point goes to the single-colour fit whatever CF holds (48_encoder_commands.md R800). -/
theorem colourHalf_of_onePoint (p : Params) (draw : Nat) {l : Latch} {mode : BuilderMode} (cf : Bool)
    {wa : Bool} {pt : V4} (h : (colourSet l mode wa).points = [pt]) :
    colourHalf p draw l mode cf wa = singleColourHalf p (colourSet l mode wa) := by
  have hfitter : fitterFor cf 1 = .singleColour := rfl
  simp [colourHalf, h, hfitter]

theorem chosenError_lt (p : Params) (pt : V4) : chosenError p pt < 2 ^ 32 := by
  rw [chosenError, sourcesError]
  have hsq (b : Byte) : b.toNat ^ 2 ≤ 255 ^ 2 := Nat.pow_le_pow_left (by omega) 2
  have := hsq (sourcesOf p pt (chosenOrientation p pt)).r.error
  have := hsq (sourcesOf p pt (chosenOrientation p pt)).g.error
  have := hsq (sourcesOf p pt (chosenOrientation p pt)).b.error
  omega

/-- The block and the error that ENC_DXT1 writes when the builder finds one point. -/
theorem exec_encDxt1_of_onePoint {cf wa a1 : Bool} {s : State} {pt : V4}
    (h : (colourSet s.latch (if a1 then .dxt1a else .dxt1) wa).points = [pt]) :
    ∃ t, exec (.encDxt1 cf wa a1) s = .next t ∧
      lowHalf t.blkOut = serializeFit (singleColourFit s.params pt
        (colourSet s.latch (if a1 then .dxt1a else .dxt1) wa).map) ∧
      t.diag.scErr.toNat = chosenError s.params pt := by
  have hhalf : colourOf s (if a1 then .dxt1a else .dxt1) cf wa =
      singleColourHalf s.params (colourSet s.latch (if a1 then .dxt1a else .dxt1) wa) :=
    colourHalf_of_onePoint _ _ cf h
  have hexec : exec (.encDxt1 cf wa a1) s = execEncDxt1 cf wa a1 s := rfl
  rw [hexec, execEncDxt1, hhalf]
  refine ⟨_, completeEncode_eq .., ?_, ?_⟩
  · simp [singleColourHalf, h]
  · simpa [singleColourHalf, h] using chosenError_lt s.params pt

/-- Settles O39: the builder finds the one point, the fit recovers its colour, and the codes of the
triples come through the serializer and the decoder. -/
theorem solidBlocksDecodeWithTheReportedError : Obligations.SolidBlocksDecodeWithTheReportedError := by
  refine ⟨fun s cf wa a1 r g b makes hmakes h5 h6 hsome hcolour => ?_, fun p pt map => ?_⟩
  · have hmakes' (i : Slot) : makes i ↔ makesPoint s.latch (if a1 then .dxt1a else .dxt1) i = true := by
      rw [hmakes, makesPoint_iff]
    obtain ⟨i0, hi0⟩ := hsome
    obtain ⟨hr, hg, hb⟩ := hcolour i0 hi0
    obtain ⟨⟨w, hpoints⟩, hmap⟩ := colourSet_solid (l := s.latch)
      (mode := if a1 then .dxt1a else .dxt1) wa (c := pointOf (slotPixel s.latch i0))
      ⟨i0, (hmakes' i0).1 hi0⟩ fun i hi => by
        obtain ⟨hri, hgi, hbi⟩ := hcolour i ((hmakes' i).2 hi)
        exact pointOf_eq_of_channels (hri.trans hr.symm) (hgi.trans hg.symm) (hbi.trans hb.symm)
    obtain ⟨t, ht, hblock, herr⟩ := exec_encDxt1_of_onePoint (cf := cf) hpoints
    obtain ⟨hx, hy, hz⟩ := channelOf_pointOf (slotPixel s.latch i0)
    refine ⟨t, ht, fun i hi => ?_⟩
    rw [hblock, herr, ← hr, ← hg, ← hb, ← hx, ← hy, ← hz]
    exact colourDistance_singleColourFit h5 h6 _ (hmap i ((hmakes' i).1 hi))
  · refine ⟨chosenOrientation_eq_one_iff p pt, chosenOrientation_cases p pt,
      chosenError_eq_min p pt, rfl, rfl, fun i => ⟨fun hi => ?_, fun hi => ?_⟩⟩
    · rw [singleColourFit, remapIndices_getElem?, hi]
      rfl
    · rw [singleColourFit, remapIndices_getElem?, hi]
      obtain h | h := chosenOrientation_cases p pt
      · rw [h]
        rfl
      · rw [h]
        rfl

end Sys2Proof.SolidBlocks
end

section
/-! SUPPORT. The block colour-set builder (42_color_set_builder.md R500 to R506): what adding one pixel
does to the points, the Map as the places of the slots' colours among the points' colours, and the
weights of the points as sums in raster order. -/

namespace Sys2Proof.Builder

open Sys2Proof Sys2Proof.Machine Sys2Proof.Statements Sys2Proof.Scalar Sys2Proof.Levels
  Sys2Proof.SolidBlocks

/-! ## Colours as points (R502): float equality is equality -/

theorem fsign_fdiv_c255 {n : Nat} (h : n ≤ 2 ^ 24) : fsign (fdiv (f32OfNat n) c255) = false := by
  rw [fdiv_of_finite (f32OfNat_exact h).1 stands_c255.finite (by decide), fsign_fround,
    productNegative_of_stands (stands_f32OfNat h) stands_c255]

theorem eq_of_fkey_eq {a b : F32} (ha : fsign a = false) (hb : fsign b = false)
    (h : fkey a = fkey b) : a = b := by
  have hmag : fmag a = fmag b := by simpa [fkey, ha, hb] using h
  rw [← fpack_fsign_fmag a, ← fpack_fsign_fmag b, ha, hb, hmag]

theorem feq_channel_iff (c d : Byte) :
    feq (fdiv (f32OfNat c.toNat) c255) (fdiv (f32OfNat d.toNat) c255) = true ↔
      fdiv (f32OfNat c.toNat) c255 = fdiv (f32OfNat d.toNat) c255 := by
  refine ⟨fun h => ?_, fun h => by rw [← h, feq_channel]⟩
  rw [feq_iff (isNaN_fdiv_c255 (by omega)) (isNaN_fdiv_c255 (by omega)), ← fkey_eq_iff] at h
  exact eq_of_fkey_eq (fsign_fdiv_c255 (by omega)) (fsign_fdiv_c255 (by omega)) h

/-- Two pixels make the same point exactly when their R, G and B are equal: the lanes give the channels
back (41_single_color_tables.md R460). -/
theorem pointOf_eq_iff (p q : Word) : pointOf p = pointOf q ↔ rgbOf p = rgbOf q := by
  obtain ⟨hpx, hpy, hpz⟩ := channelOf_pointOf p
  obtain ⟨hqx, hqy, hqz⟩ := channelOf_pointOf q
  constructor
  · intro h
    rw [rgbOf, rgbOf, ← hpx, ← hpy, ← hpz, ← hqx, ← hqy, ← hqz, h]
  · intro h
    simp only [rgbOf, Prod.mk.injEq] at h
    obtain ⟨h0, h1, h2⟩ := h
    exact pointOf_eq_of_channels h0 h1 h2

/-- The colours of a point list. -/
def colours (pts : List V4) : List V3 := pts.map xyz

/-- Every colour is the colour of some pixel. -/
def PixelColours (cs : List V3) : Prop := ∀ c ∈ cs, ∃ q : Word, pointOf q = c

theorem samePoint_iff {p : V4} {q : Word} (hq : pointOf q = xyz p) (r : Word) :
    samePoint p (pointOf r) = true ↔ xyz p = pointOf r := by
  have hx : p.x = (pointOf q).x := congrArg V3.x hq.symm
  have hy : p.y = (pointOf q).y := congrArg V3.y hq.symm
  have hz : p.z = (pointOf q).z := congrArg V3.z hq.symm
  simp [← hq, samePoint, hx, hy, hz, pointOf, feq_channel_iff, and_assoc]

/-! ## Adding one pixel (R501, R504) -/

/-- What adding a pixel can do: the first equal point takes the weight, or a new point is the last. -/
theorem addPoint_cases (c : V3) (w : F32) (pts : List V4) (i : Nat) :
    (∃ before p after, pts = before ++ p :: after ∧ (∀ r ∈ before, samePoint r c = false) ∧
      samePoint p c = true ∧ addPoint c w pts i =
        (before ++ { p with w := fadd p.w w } :: after, i + before.length)) ∨
    (∀ r ∈ pts, samePoint r c = false) ∧
      addPoint c w pts i = (pts ++ [⟨c.x, c.y, c.z, w⟩], i + pts.length) := by
  induction pts generalizing i with
  | nil => exact .inr ⟨by simp, rfl⟩
  | cons p ps ih =>
    rw [addPoint]
    split
    · next hp => exact .inl ⟨[], p, ps, rfl, by simp, hp, rfl⟩
    · next hp =>
      rw [Bool.not_eq_true] at hp
      obtain ⟨before, r, after, rfl, hbefore, hr, heq⟩ | ⟨hall, heq⟩ := ih (i + 1)
      · exact .inl ⟨p :: before, r, after, rfl, by simpa [hp] using hbefore, hr,
          by simp [heq]; omega⟩
      · exact .inr ⟨by simpa [hp] using hall, by simp [heq]; omega⟩

/-- The points are numbered as they are made: only the next number is new. -/
theorem addPoint_num_le (c : V3) (w : F32) (pts : List V4) :
    (addPoint c w pts 0).2 ≤ pts.length ∧
    ∀ m < (addPoint c w pts 0).1.length, m < pts.length ∨ m = (addPoint c w pts 0).2 := by
  obtain ⟨before, p, after, rfl, -, -, heq⟩ | ⟨-, heq⟩ := addPoint_cases c w pts 0
  · simp +contextual [heq]
  · simp only [heq, List.length_append, List.length_singleton, Nat.zero_add]
    exact ⟨le_rfl, fun m hm => by omega⟩

/-- The weight of a point that takes one more summand, none before its first (R504). -/
def addWeight (sum : Option F32) (w : F32) : Option F32 :=
  some (sum.elim w fun a => fadd a w)

theorem foldl_addWeight_some (ws : List F32) (a : F32) :
    ws.foldl addWeight (some a) = some (ws.foldl fadd a) := by
  induction ws generalizing a with
  | nil => rfl
  | cons w ws ih => exact ih (fadd a w)

theorem foldl_addWeight_none {ws : List F32} {sum : F32} (h : ws.foldl addWeight none = some sum) :
    ∃ w rest, ws = w :: rest ∧ sum = rest.foldl fadd w := by
  cases ws with
  | nil => cases h
  | cons w rest =>
    have hsum := (foldl_addWeight_some rest w).symm.trans h
    exact ⟨w, rest, rfl, (Option.some.inj hsum).symm⟩

/-- The point a pixel joins takes its weight, every other point keeps its own. -/
theorem addPoint_weight (c : V3) (w : F32) (pts : List V4) (n : Nat) :
    (addPoint c w pts 0).1[n]?.map V4.w =
      if (addPoint c w pts 0).2 = n then addWeight (pts[n]?.map V4.w) w else pts[n]?.map V4.w := by
  obtain ⟨before, p, after, rfl, -, -, heq⟩ | ⟨-, heq⟩ := addPoint_cases c w pts 0
  · rw [heq, Nat.zero_add]
    split
    · next hn => simp [← hn, addWeight]
    · next hn =>
      obtain hlt | hgt := Nat.lt_or_gt_of_ne hn
      · obtain ⟨k, rfl⟩ := Nat.exists_eq_add_of_lt hlt
        simp [List.getElem?_append_right, Nat.add_assoc]
      · rw [List.getElem?_append_left hgt, List.getElem?_append_left hgt]
  · rw [heq, Nat.zero_add]
    split
    · next hn => simp [← hn, addWeight]
    · next hn =>
      obtain hlt | hgt := Nat.lt_or_gt_of_ne hn
      · simp [List.getElem?_eq_none, Nat.succ_le_of_lt hlt, hlt.le]
      · rw [List.getElem?_append_left hgt]

/-- On points of pixel colours, a pixel is numbered by the place of its colour. -/
theorem addPoint_colours {pts : List V4} (h : PixelColours (colours pts)) (q : Word) (w : F32) :
    let a := addPoint (pointOf q) w pts 0
    colours pts <+: colours a.1 ∧ (∀ c, c ∈ colours a.1 ↔ c ∈ colours pts ∨ c = pointOf q) ∧
      a.2 = (colours a.1).idxOf (pointOf q) := by
  have hsame (p : V4) (hp : p ∈ pts) : samePoint p (pointOf q) = true ↔ xyz p = pointOf q := by
    obtain ⟨r, hr⟩ := h (xyz p) (List.mem_map_of_mem hp)
    exact samePoint_iff hr q
  have hnew (ps : List V4) (hps : ∀ p ∈ ps, p ∈ pts ∧ samePoint p (pointOf q) = false) :
      pointOf q ∉ colours ps := by
    intro hq
    obtain ⟨p, hp, hpq⟩ := List.mem_map.1 hq
    obtain ⟨hmem, hdiff⟩ := hps p hp
    simp [(hsame p hmem).2 hpq] at hdiff
  dsimp only
  obtain ⟨before, p, after, hpts, hbefore, hp, heq⟩ | ⟨hall, heq⟩ :=
    addPoint_cases (pointOf q) w pts 0
  · have hcolour : xyz p = pointOf q := (hsame p (by simp [hpts])).1 hp
    have hold : colours pts = colours before ++ pointOf q :: colours after := by
      simp [hpts, colours, hcolour]
    have hsum : colours (addPoint (pointOf q) w pts 0).1 = colours pts := by
      rw [heq, hpts]
      simp [colours, xyz]
    have hfirst := hnew before fun r hr => ⟨by simp [hpts, hr], hbefore r hr⟩
    refine ⟨⟨[], by rw [hsum, List.append_nil]⟩, fun c => ?_, ?_⟩
    · rw [hsum, hold]
      simp only [List.mem_append, List.mem_cons]
      tauto
    · rw [hsum, hold, List.idxOf_append_of_notMem hfirst, List.idxOf_cons_self, heq]
      simp [colours]
  · have hsum : colours (addPoint (pointOf q) w pts 0).1 = colours pts ++ [pointOf q] := by
      rw [heq]
      simp [colours, xyz]
    refine ⟨⟨[pointOf q], hsum.symm⟩, fun c => by simp [hsum], ?_⟩
    rw [hsum, List.idxOf_append_of_notMem (hnew pts fun p hp => ⟨hp, hall p hp⟩),
      List.idxOf_cons_self, heq]
    simp [colours]

theorem PixelColours.addPoint {pts : List V4} (h : PixelColours (colours pts)) (q : Word) (w : F32) :
    PixelColours (colours (Machine.addPoint (pointOf q) w pts 0).1) := by
  intro c hc
  obtain ⟨-, hmem, -⟩ := addPoint_colours h q w
  obtain hold | rfl := (hmem c).1 hc
  · exact h c hold
  · exact ⟨q, rfl⟩

/-! ## The scan (R501, R504) -/

/-- The Map entry of a slot: the place of its colour among the points' colours, if it makes a point. -/
def entry (l : Latch) (mode : BuilderMode) (cs : List V3) (s : Slot) : Option Nat :=
  if makesPoint l mode s then some (cs.idxOf (pointOf (slotPixel l s))) else none

/-- The scan keeps the points found so far in their places, finds a point for every slot that makes one,
and enters the places of the colours in the Map. -/
theorem scanSlots_colours (l : Latch) (mode : BuilderMode) (wa : Bool) (ss : List Slot) {pts : List V4}
    (h : PixelColours (colours pts)) :
    let r := scanSlots l mode wa ss pts
    colours pts <+: colours r.1 ∧
      (∀ s ∈ ss, makesPoint l mode s = true → pointOf (slotPixel l s) ∈ colours r.1) ∧
      r.2 = ss.map (entry l mode (colours r.1)) := by
  dsimp only
  induction ss generalizing pts with
  | nil => simp [scanSlots]
  | cons s ss ih =>
    by_cases hs : makesPoint l mode s = true
    · rw [scanSlots_cons_of_makes hs]
      dsimp only
      obtain ⟨hkept, hmem, hnum⟩ :=
        addPoint_colours h (slotPixel l s) (pixelWeight wa (slotPixel l s))
      obtain ⟨hrest, hfound, hmap⟩ := ih (h.addPoint (slotPixel l s) (pixelWeight wa (slotPixel l s)))
      have hin := (hmem (pointOf (slotPixel l s))).2 (.inr rfl)
      refine ⟨hkept.trans hrest, List.forall_mem_cons.2 ⟨fun _ => hrest.subset hin, hfound⟩, ?_⟩
      rw [List.map_cons, ← hmap, entry, if_pos hs, hnum]
      obtain ⟨new, hnew⟩ := hrest
      rw [← hnew, List.idxOf_append_of_mem hin]
    · rw [scanSlots_cons_of_not_makes hs]
      obtain ⟨hrest, hfound, hmap⟩ := ih h
      refine ⟨hrest, List.forall_mem_cons.2 ⟨fun hmakes => absurd hmakes hs, hfound⟩, ?_⟩
      rw [List.map_cons, ← hmap, entry, if_neg hs]

/-- Point n sums, in raster order, the weights of the slots that the Map gives to it. -/
theorem scanSlots_weight {l : Latch} {mode : BuilderMode} {wa : Bool} {e : Slot → Option Nat}
    {ss : List Slot} {pts : List V4} (h : (scanSlots l mode wa ss pts).2 = ss.map e) (n : Nat) :
    (scanSlots l mode wa ss pts).1[n]?.map V4.w =
      ((ss.filter fun s => e s == some n).map fun s => pixelWeight wa (slotPixel l s)).foldl
        addWeight (pts[n]?.map V4.w) := by
  induction ss generalizing pts with
  | nil => rfl
  | cons s ss ih =>
    by_cases hs : makesPoint l mode s = true
    · rw [scanSlots_cons_of_makes hs] at h ⊢
      obtain ⟨hentry, hrest⟩ := List.cons.inj h
      rw [ih hrest, addPoint_weight, List.filter_cons, ← hentry]
      simp only [beq_iff_eq, Option.some.injEq]
      split <;> rfl
    · rw [scanSlots_cons_of_not_makes hs] at h ⊢
      obtain ⟨hentry, hrest⟩ := List.cons.inj h
      rw [ih hrest, List.filter_cons, ← hentry]
      rfl

/-- Before a slot has point n, every smaller number is a point's already. -/
theorem scanSlots_numbered_in_order (l : Latch) (mode : BuilderMode) (wa : Bool) (ss : List Slot)
    (pts : List V4) {k m n : Nat} (h : (scanSlots l mode wa ss pts).2[k]? = some (some n))
    (hmn : m < n) :
    m < pts.length ∨ ∃ j < k, (scanSlots l mode wa ss pts).2[j]? = some (some m) := by
  induction ss generalizing pts k with
  | nil => simp [scanSlots] at h
  | cons s ss ih =>
    by_cases hs : makesPoint l mode s = true
    · rw [scanSlots_cons_of_makes hs] at h ⊢
      obtain ⟨hle, hnew⟩ :=
        addPoint_num_le (pointOf (slotPixel l s)) (pixelWeight wa (slotPixel l s)) pts
      cases k with
      | zero =>
        have hn := Option.some.inj (Option.some.inj h)
        exact .inl (by omega)
      | succ k =>
        obtain hlt | ⟨j, hj, hget⟩ := ih _ h
        · obtain hold | hhead := hnew m hlt
          · exact .inl hold
          · exact .inr ⟨0, by omega, by rw [hhead]; rfl⟩
        · exact .inr ⟨j + 1, by omega, hget⟩
    · rw [scanSlots_cons_of_not_makes hs] at h ⊢
      cases k with
      | zero => simp at h
      | succ k =>
        exact (ih _ h).imp_right fun ⟨j, hj, hget⟩ => ⟨j + 1, by omega, hget⟩

/-! ## The builder (R501 to R506) -/

section ColourSet

variable (l : Latch) (mode : BuilderMode) (wa : Bool)

/-- The colours of the builder's points, in point order. -/
def pointColours : List V3 := colours (colourSet l mode wa).points

theorem pointColours_eq_scan : pointColours l mode wa = colours (scanSlots l mode wa slots []).1 := by
  simp [pointColours, colourSet, colours, xyz, rootWeight]

theorem slots_getElem? (s : Slot) : slots[s.val]? = some s := by
  revert s
  decide

/-- The scan of all slots, in terms of the colours it finds. -/
theorem colourSet_scan :
    (∀ s, makesPoint l mode s = true → pointOf (slotPixel l s) ∈ pointColours l mode wa) ∧
      (colourSet l mode wa).map = slots.map (entry l mode (pointColours l mode wa)) := by
  have hnil : PixelColours (colours []) := List.forall_mem_nil _
  obtain ⟨-, hfound, hmap⟩ := scanSlots_colours l mode wa slots hnil
  rw [← pointColours_eq_scan] at hfound hmap
  exact ⟨fun s => hfound s (List.mem_of_getElem? (slots_getElem? s)), hmap⟩

theorem pointOf_mem_pointColours {s : Slot} (h : makesPoint l mode s = true) :
    pointOf (slotPixel l s) ∈ pointColours l mode wa :=
  (colourSet_scan l mode wa).1 s h

theorem colourSet_map_eq :
    (colourSet l mode wa).map = slots.map (entry l mode (pointColours l mode wa)) :=
  (colourSet_scan l mode wa).2

theorem colourSet_map_getElem? (s : Slot) :
    (colourSet l mode wa).map[s.val]? = some (entry l mode (pointColours l mode wa) s) := by
  rw [colourSet_map_eq, List.getElem?_map, slots_getElem?]
  rfl

/-- The Map entry of a slot that makes a point is the place of its colour. -/
theorem colourSet_map_eq_some_iff {s : Slot} {n : Nat} :
    (colourSet l mode wa).map[s.val]? = some (some n) ↔
      makesPoint l mode s = true ∧ (pointColours l mode wa).idxOf (pointOf (slotPixel l s)) = n := by
  simp [colourSet_map_getElem?, entry]

theorem pixelWeight_eq (p : Word) : pixelWeight wa p = weightOf wa p := by
  have halpha : (pixA p).toNat = channelNat p 3 := byteOfWord_toNat p 3
  rw [pixelWeight, weightOf, halpha]
  rfl

theorem colourSet_weight (n : Nat) :
    (colourSet l mode wa).points[n]?.map V4.w =
      ((weightsOf l wa (colourSet l mode wa).map n).foldl addWeight none).map fsqrt := by
  have hscan := scanSlots_weight (l := l) (mode := mode) (wa := wa) (pts := [])
    (colourSet_map_eq l mode wa) n
  have hslots : List.finRange 16 = slots := by decide
  have hweights : weightsOf l wa (colourSet l mode wa).map n =
      ((slots.filter fun s => entry l mode (pointColours l mode wa) s == some n).map
        fun s => pixelWeight wa (slotPixel l s)) := by
    simp only [weightsOf, hslots, colourSet_map_getElem?, pixelWeight_eq]
    rfl
  have hroot : (colourSet l mode wa).points[n]?.map V4.w =
      ((scanSlots l mode wa slots []).1[n]?.map V4.w).map fsqrt := by
    simp [colourSet, Function.comp_def, rootWeight]
  rw [hroot, hscan, hweights]
  rfl

/-- Every point has a first weight, and its weight is the root of the sum (R504, R505). -/
theorem weightsOf_of_point {n : Nat} {p : V4} (h : (colourSet l mode wa).points[n]? = some p) :
    ∃ w ws, weightsOf l wa (colourSet l mode wa).map n = w :: ws ∧ p.w = fsqrt (ws.foldl fadd w) := by
  have hweight := colourSet_weight l mode wa n
  rw [h, eq_comm, Option.map_some, Option.map_eq_some_iff] at hweight
  obtain ⟨sum, hsum, hroot⟩ := hweight
  obtain ⟨w, ws, hws, rfl⟩ := foldl_addWeight_none hsum
  exact ⟨w, ws, hws, hroot.symm⟩

/-- The point of a slot has the slot's colour (R502). -/
theorem colourSet_point {s : Slot} {n : Nat} (h : (colourSet l mode wa).map[s.val]? = some (some n)) :
    ∃ p, (colourSet l mode wa).points[n]? = some p ∧ xyz p = pointOf (slotPixel l s) := by
  obtain ⟨hmakes, rfl⟩ := (colourSet_map_eq_some_iff l mode wa).1 h
  have hcolour := List.getElem?_idxOf (pointOf_mem_pointColours l mode wa hmakes)
  rwa [pointColours, colours, List.getElem?_map, Option.map_eq_some_iff] at hcolour

/-- Every point has a slot. -/
theorem exists_slot_of_point {n : Nat} (h : n < (colourSet l mode wa).points.length) :
    ∃ s : Slot, (colourSet l mode wa).map[s.val]? = some (some n) := by
  obtain ⟨w, ws, hws, -⟩ := weightsOf_of_point l mode wa (List.getElem?_eq_getElem h)
  have hmem : w ∈ weightsOf l wa (colourSet l mode wa).map n := hws ▸ List.mem_cons_self
  obtain ⟨s, hs, -⟩ := List.mem_map.1 hmem
  exact ⟨s, eq_of_beq (List.mem_filter.1 hs).2⟩

/-- There is no point exactly when no slot has one (R506). -/
theorem points_eq_nil_iff :
    (colourSet l mode wa).points = [] ↔ ∀ m ∈ (colourSet l mode wa).map, m = none := by
  constructor
  · intro h m hm
    rw [colourSet_map_eq] at hm
    obtain ⟨s, -, rfl⟩ := List.mem_map.1 hm
    rw [Option.eq_none_iff_forall_ne_some]
    intro n hn
    obtain ⟨p, hp, -⟩ := colourSet_point l mode wa ((colourSet_map_getElem? l mode wa s).trans
      (congrArg some hn))
    simp [h] at hp
  · intro h
    by_contra hne
    obtain ⟨s, hs⟩ := exists_slot_of_point l mode wa (List.length_pos_iff.2 hne)
    cases h _ (List.mem_of_getElem? hs)

/-- R501: which slots make no point. -/
theorem makesPoint_eq_false_iff (s : Slot) :
    makesPoint l mode s = false ↔
      slotValid l s = false ∨ (mode = .dxt1a ∧ channelNat (slotPixel l s) 3 < 128) := by
  have halpha : (pixA (slotPixel l s)).toNat = channelNat (slotPixel l s) 3 := byteOfWord_toNat _ 3
  cases hvalid : slotValid l s <;> simp [makesPoint, hvalid, halpha]

theorem colourSet_map_eq_none_iff (s : Slot) :
    (colourSet l mode wa).map[s.val]? = some none ↔ makesPoint l mode s = false := by
  simp [colourSet_map_getElem?, entry]

end ColourSet

/-- Settles O40: the Map holds the places of the slots' colours, the scan adds the weights in raster
order, and a new point takes the next number. -/
theorem mapMarksExactlyTheSlotsWithoutAPoint :
    Obligations.MapMarksExactlyTheSlotsWithoutAPoint := by
  intro l mode wa
  have hlength : (colourSet l mode wa).map.length = 16 := by
    rw [colourSet_map_eq, List.length_map]
    rfl
  refine ⟨hlength, Invariant.colourSet_points_length_le l mode wa, fun i => ⟨?_, fun n hn => ?_⟩,
    fun i m n hn hmn => ?_, fun n => exists_slot_of_point l mode wa, points_eq_nil_iff l mode wa⟩
  · exact (colourSet_map_eq_none_iff l mode wa i).trans (makesPoint_eq_false_iff l mode i)
  · obtain ⟨⟨x, y, z, weight⟩, hp, hcolour⟩ := colourSet_point l mode wa hn
    obtain ⟨w, ws, hws, rfl⟩ := weightsOf_of_point l mode wa hp
    refine ⟨w, ws, hws, hp.trans ?_⟩
    obtain ⟨rfl, rfl, rfl⟩ := V3.mk.inj hcolour
    simp only [← byteOfWord_toNat]
    rfl
  · obtain hlt | ⟨k, hk, hget⟩ := scanSlots_numbered_in_order l mode wa slots [] hn hmn
    · cases hlt
    · exact ⟨⟨k, hk.trans i.isLt⟩, hk, hget⟩

/-- Settles O41: the Map entry is the place of the colour, and the colour gives the channels back. -/
theorem slotsShareAPointExactlyWhenColoursAreEqual :
    Obligations.SlotsShareAPointExactlyWhenColoursAreEqual := by
  intro l mode wa i j m n hi hj
  obtain ⟨hmakes, rfl⟩ := (colourSet_map_eq_some_iff l mode wa).1 hi
  obtain ⟨-, rfl⟩ := (colourSet_map_eq_some_iff l mode wa).1 hj
  rw [List.idxOf_inj (pointOf_mem_pointColours l mode wa hmakes), pointOf_eq_iff]

end Sys2Proof.Builder
end

section
/-! SUPPORT. Quantisation of a lane to a grid level (43_range_fit.md R553): a clamped lane times the grid,
and a half, stays below the next level under the rounding of either multiply-add, and truncation of it is
the level exactly. -/

namespace Sys2Proof.Quantisation

open Sys2Proof Sys2Proof.Machine Sys2Proof.Statements Sys2Proof.Rounding Sys2Proof.Scalar
  Sys2Proof.Selections

/-! ## Rounding keeps a bound that is a pattern's value -/

theorem roundMag_le_of_le {f : FloatFormat} (hf : 0 < f.frac) {num den p : Nat} (hden : 0 < den)
    (h : num ≤ den * unitsOf f p) : roundMag f num den ≤ p := by
  rw [roundMag_eq_min]
  refine (Nat.min_le_left _ _).trans (Nat.le_of_not_lt fun hlt => ?_)
  have hbelow := (roundUnbounded_roundsTo hf num hden).below p hlt
  have hmono := Nat.mul_lt_mul_of_pos_left (unitsOf_strictMono f hlt) hden
  rw [Nat.mul_add] at hbelow
  omega

/-- A finite pattern of a value from 0 to that of `bound`. -/
structure Within (x bound : F32) : Prop where
  finite : finite x
  nonneg : 0 ≤ fvalue x
  le : fvalue x ≤ fvalue bound

theorem fvalue_of_fsign {x : F32} (h : fsign x = false) : fvalue x = funits x := by
  rw [fvalue, h, if_neg Bool.false_ne_true]

theorem within_fround {num den : Nat} {bound : F32} (hden : 0 < den) (hfin : finite bound)
    (hsign : fsign bound = false) (h : num ≤ den * funits bound) :
    Within (fround false num den) bound := by
  have hle : fmag (fround false num den) ≤ fmag bound := by
    rw [fmag_fround]
    exact roundMag_le_of_le binary32_frac_pos hden h
  have hvalue : fvalue (fround false num den) = funits (fround false num den) :=
    fvalue_of_fsign (fsign_fround _ _ _)
  refine ⟨hle.trans_lt hfin, by omega, ?_⟩
  rw [hvalue, fvalue_of_fsign hsign]
  exact_mod_cast (unitsOf_strictMono binary32).monotone hle

theorem within_froundSum {z : Int} {den : Nat} {bound : F32} (n : Bool) (hden : 0 < den)
    (hfin : finite bound) (hsign : fsign bound = false) (hpos : 0 < z)
    (h : z ≤ den * fvalue bound) :
    Within (froundSum n z den) bound ∧ fsign (froundSum n z den) = false := by
  rw [froundSum_of_ne_zero hpos.ne', nearest, decide_eq_false hpos.le.not_gt]
  refine ⟨within_fround hden hfin hsign ?_, fsign_fround _ _ _⟩
  rw [fvalue_of_fsign hsign] at h
  zify
  rwa [abs_of_pos hpos]

/-! ## The clamped lane (R406) -/

theorem fvalue_fone : fvalue fone = 2 ^ 149 := by decide

theorem within_clamp01 {v : F32} (hv : isNaN v = false) : Within (clamp01 v) fone := by
  by_cases hzero : flt v fzero = true
  · rw [clamp01_of_lt_zero hzero]
    exact ⟨by unfold Statements.finite; decide, by decide, by decide⟩
  by_cases hone : flt fone v = true
  · rw [clamp01_of_one_lt hone]
    exact ⟨by unfold Statements.finite; decide, by decide, by decide⟩
  rw [clamp01_of_not_lt_zero (Bool.eq_false_of_not_eq_true hzero), if_neg hone]
  rw [flt_iff hv (by decide), show fvalue fzero = 0 by decide, not_lt] at hzero
  rw [flt_iff (by decide) hv, not_lt] at hone
  have hinf : isInf v = false := by
    by_contra h
    have hmag : fmag v = binary32.inf := by simpa [isInf] using h
    have hunits : (fvalue v).natAbs = 2 ^ 277 := by
      rw [natAbs_fvalue, funits, hmag, unitsOf_binary32_inf]
    rw [fvalue_fone] at hone
    omega
  exact ⟨Primitives.finite_of_classes hv hinf, hzero, hone⟩

/-! ## The level (R553) -/

/-- A grid of `limit + 1` levels: its factor, and the pattern half a level above the last. -/
structure Grid (g top : F32) (limit : Nat) : Prop where
  finite : finite g
  sign : fsign g = false
  value : fvalue g = limit * 2 ^ 149
  top_finite : Statements.finite top
  top_sign : fsign top = false
  top_value : fvalue top = limit * 2 ^ 149 + 2 ^ 148
  small : limit ≤ 2 ^ 24

theorem fvalue_cHalf : fvalue cHalf = 2 ^ 148 := by decide

theorem finite_cHalf : finite cHalf := by unfold finite; decide

section
variable {g top c : F32} {limit : Nat}

theorem Grid.nonneg (hg : Grid g top limit) : 0 ≤ fvalue g := by rw [hg.value]; positivity

/-- The product of the grid and a lane, rounded. A product of zero keeps its sign and is 0 still. -/
theorem within_fmul (hg : Grid g top limit) (hc : Within c fone) : Within (fmul g c) g := by
  rw [fmul_of_finite hg.finite hc.finite]
  obtain hzero | hpos := hc.nonneg.eq_or_lt
  · have hmag : fmag (fround (productNegative g c) (fvalue g * fvalue c).natAbs (2 ^ 149)) = 0 := by
      rw [← hzero, mul_zero, fmag_fround]
      decide
    refine ⟨by rw [Statements.finite, hmag]; decide, ?_, ?_⟩ <;> rw [(fvalue_eq_zero_iff _).2 hmag]
    exact hg.nonneg
  · have hneg : productNegative g c = false := by
      rw [productNegative, hg.sign, fsign_of_fvalue_pos hpos]
      rfl
    rw [hneg, Int.natAbs_mul, natAbs_fvalue, natAbs_fvalue, Nat.mul_comm]
    refine within_fround (Nat.two_pow_pos 149) hg.finite hg.sign (Nat.mul_le_mul_right _ ?_)
    have hle := hc.le
    rw [fvalue_fone, fvalue_of_fsign (fsign_of_fvalue_pos hpos)] at hle
    exact_mod_cast hle

/-- Either form of the multiply-add stays at half a level above the last, or below. -/
theorem within_fmadd_half (fused : Bool) (hg : Grid g top limit) (hc : Within c fone) :
    Within (fmadd fused g c cHalf) top ∧ fsign (fmadd fused g c cHalf) = false := by
  cases fused with
  | false =>
    have hmul := within_fmul hg hc
    have hlow := hmul.nonneg
    have hhigh := hmul.le
    rw [fmadd, if_neg Bool.false_ne_true, fadd_of_finite hmul.finite finite_cHalf, fvalue_cHalf]
    refine within_froundSum _ Nat.one_pos hg.top_finite hg.top_sign (by omega) ?_
    rw [hg.top_value, ← hg.value]
    omega
  | true =>
    have hlow := mul_nonneg hg.nonneg hc.nonneg
    have hhigh := mul_le_mul_of_nonneg_left hc.le hg.nonneg
    rw [fvalue_fone] at hhigh
    rw [fmadd, if_pos rfl, ffma_of_finite hg.finite hc.finite finite_cHalf, fvalue_cHalf]
    refine within_froundSum _ (Nat.two_pow_pos 149) hg.top_finite hg.top_sign (by omega) ?_
    rw [hg.top_value, ← hg.value]
    push_cast
    linarith

end

/-- The integer part of a positive value, as a pattern, is the conversion of that integer. -/
theorem ftrunc_eq_f32OfNat {x : F32} {q : Nat} (hx : finite x) (hsign : fsign x = false)
    (hq : q ≤ 2 ^ 24) (hlow : (q : Int) * 2 ^ 149 ≤ fvalue x)
    (hhigh : fvalue x < ((q : Int) + 1) * 2 ^ 149) : ftrunc x = f32OfNat q := by
  obtain ⟨hvalue, htsign, -⟩ := ftrunc_exact hx
  refine Builder.eq_of_fkey_eq (htsign.trans hsign) (fsign_fround _ _ _) ((fkey_eq_iff _ _).2 ?_)
  rw [hvalue, (f32OfNat_exact hq).2, Int.tdiv_eq_ediv_of_nonneg (by omega)]
  omega

theorem quantLane_level (fused : Bool) {g top v : F32} {limit : Nat} (gr : F32)
    (hg : Grid g top limit) (hv : isNaN v = false) :
    ∃ q, q ≤ limit ∧ quantLane fused g gr v = fmul (f32OfNat q) gr ∧ levelOf fused g v q := by
  obtain ⟨hx, hxsign⟩ := within_fmadd_half fused hg (within_clamp01 hv)
  have hnonneg := hx.nonneg
  have hle := hg.top_value ▸ hx.le
  obtain ⟨q, hq⟩ := Int.eq_ofNat_of_zero_le
    (Int.ediv_nonneg hnonneg (show (0 : Int) ≤ 2 ^ 149 by positivity))
  have hlow : (q : Int) * 2 ^ 149 ≤ fvalue (fmadd fused g (clamp01 v) cHalf) := by omega
  have hhigh : fvalue (fmadd fused g (clamp01 v) cHalf) < ((q : Int) + 1) * 2 ^ 149 := by omega
  have hlimit : q ≤ limit := by omega
  refine ⟨q, hlimit, ?_, hlow, hhigh⟩
  rw [quantLane, ftrunc_eq_f32OfNat hx.finite hxsign (hlimit.trans hg.small) hlow hhigh]

theorem grid_c31 : Grid c31 0x41FC0000 31 :=
  ⟨by unfold finite; decide, by decide, by decide, by unfold finite; decide, by decide, by decide,
    by decide⟩

theorem grid_c63 : Grid c63 0x427E0000 63 :=
  ⟨by unfold finite; decide, by decide, by decide, by unfold finite; decide, by decide, by decide,
    by decide⟩

/-- R553 for a colour whose lanes are numbers. -/
theorem quantised_quant3 (fused : Bool) {v : V3} (hx : isNaN v.x = false) (hy : isNaN v.y = false)
    (hz : isNaN v.z = false) : quantised fused v (quant3 fused v) := by
  obtain ⟨r, hr, hqr, hlr⟩ := quantLane_level fused cRcp31 grid_c31 hx
  obtain ⟨g, hg, hqg, hlg⟩ := quantLane_level fused cRcp63 grid_c63 hy
  obtain ⟨b, hb, hqb, hlb⟩ := quantLane_level fused cRcp31 grid_c31 hz
  exact ⟨r, g, b, hr, hg, hb, by rw [quant3, hqr, hqg, hqb]; rfl, hlr, hlg, hlb⟩

end Sys2Proof.Quantisation
end

section
/-! SUPPORT. The principal axis lane by lane (42_color_set_builder.md R509, R510): each entry of the
covariance is a sum of its own, and a power step works on three lanes. -/

namespace Sys2Proof.Axis

open Sys2Proof Sys2Proof.Machine Sys2Proof.Statements

/-! ## Sums of one lane -/

/-- A lane of a running sum of records is the running sum of the lane. -/
theorem foldl_lane {α β : Type} (lane : β → F32) (term : α → F32) {f : β → α → β}
    (h : ∀ acc p, lane (f acc p) = fadd (lane acc) (term p)) (ps : List α) (acc : β) :
    lane (ps.foldl f acc) = (ps.map term).foldl fadd (lane acc) := by
  rw [List.foldl_map]
  exact (List.foldl_hom lane fun acc p => (h acc p).symm).symm

theorem weightedSum_total (ps : List V4) : (weightedSum ps).1 = (ps.map V4.w).foldl fadd fzero :=
  foldl_lane Prod.fst V4.w (fun _ _ => rfl) ps _

/-- The same lane of a colour and of a point. -/
structure Lane (l3 : V3 → F32) (l : V4 → F32) : Prop where
  xyz : ∀ p, l3 (xyz p) = l p
  map3 : ∀ f v, l3 (map3 f v) = f (l3 v)
  zip3 : ∀ f u v, l3 (zip3 f u v) = f (l3 u) (l3 v)
  zero : l3 zeroV3 = fzero

theorem lane_x : Lane V3.x V4.x := ⟨fun _ => rfl, fun _ _ => rfl, fun _ _ _ => rfl, rfl⟩

theorem lane_y : Lane V3.y V4.y := ⟨fun _ => rfl, fun _ _ => rfl, fun _ _ _ => rfl, rfl⟩

theorem lane_z : Lane V3.z V4.z := ⟨fun _ => rfl, fun _ _ => rfl, fun _ _ _ => rfl, rfl⟩

theorem centroid_lane {l3 : V3 → F32} {l : V4 → F32} (hl : Lane l3 l) (ps : List V4) :
    l3 (centroid ps) = laneCentroid ps l := by
  have hsum : l3 (weightedSum ps).2 = (ps.map fun p => fmul (l p) p.w).foldl fadd fzero := by
    rw [← hl.zero]
    exact foldl_lane (fun acc : F32 × V3 => l3 acc.2) _
      (fun acc p => by rw [hl.zip3, hl.map3, hl.xyz]) ps _
  unfold centroid laneCentroid
  dsimp only
  rw [apply_ite l3, hl.map3, hsum, weightedSum_total]
  rfl

/-- R509: an entry that adds the product of two lanes' deviations, the second weighted. -/
theorem covariance_entry {e : Covariance → F32} {l3 m3 : V3 → F32} {l m : V4 → F32}
    (hl : Lane l3 l) (hm : Lane m3 m)
    (he0 : e ⟨fzero, fzero, fzero, fzero, fzero, fzero⟩ = fzero)
    (he : ∀ c cov p, e (addCovariance c cov p) =
      fadd (e cov) (fmul (fsub (l p) (l3 c)) (fmul p.w (fsub (m p) (m3 c))))) (ps : List V4) :
    e (covariance ps) = covarianceEntry ps l m := by
  rw [covariance, foldl_lane e _ (he (centroid ps)), he0, centroid_lane hl, centroid_lane hm]
  rfl

/-! ## The power iteration -/

theorem powerIterate_eq_iterate (eps : F64) (cov : Covariance) (n : Nat) (v : V4) :
    powerIterate eps cov n v = (powerStep eps cov)^[n] v := by
  induction n generalizing v with
  | zero => rfl
  | succ n ih => exact ih _

theorem xyz_powerStep (eps : F64) (ps : List V4) (v : V4) :
    xyz (powerStep eps (covariance ps) v) = axisStep eps ps (xyz v) := by
  have hxx := covariance_entry (e := Covariance.xx) lane_x lane_x rfl (fun _ _ _ => rfl) ps
  have hxy := covariance_entry (e := Covariance.xy) lane_x lane_y rfl (fun _ _ _ => rfl) ps
  have hxz := covariance_entry (e := Covariance.xz) lane_x lane_z rfl (fun _ _ _ => rfl) ps
  have hyy := covariance_entry (e := Covariance.yy) lane_y lane_y rfl (fun _ _ _ => rfl) ps
  have hyz := covariance_entry (e := Covariance.yz) lane_y lane_z rfl (fun _ _ _ => rfl) ps
  have hzz := covariance_entry (e := Covariance.zz) lane_z lane_z rfl (fun _ _ _ => rfl) ps
  simp only [axisStep, ← hxx, ← hxy, ← hxz, ← hyy, ← hyz, ← hzz, powerStep, xyz, vmul, vadd, zip4,
    bcast]

/-- R510: PARAM_PA_ITER steps on three lanes; lane w feeds no other. -/
theorem principalAxis_eq_iterate (p : Params) (ps : List V4) :
    principalAxis p ps = (axisStep p.recipEps ps)^[p.paIter] ⟨fone, fone, fone⟩ := by
  have hstep : Function.Semiconj xyz (powerStep p.recipEps (covariance ps))
      (axisStep p.recipEps ps) := xyz_powerStep p.recipEps ps
  rw [principalAxis, powerIterate_eq_iterate]
  exact hstep.iterate_right p.paIter (bcast fone)

end Sys2Proof.Axis
end

section
/-! SUPPORT. Range-fit (43_range_fit.md R551 to R555): the first least of a list grows with the list, the
extremes are the first least and the first greatest projection, and the search for a code keeps the first
least distance below BIG. -/

namespace Sys2Proof.RangeFit

open Sys2Proof Sys2Proof.Machine Sys2Proof.Statements Sys2Proof.Selections Sys2Proof.SolidBlocks
  Sys2Proof.Quantisation

/-! ## The first least of a list -/

/-- `x`, in place `i`, is the first of the list's elements of least key. -/
structure FirstLeast {α : Type} (key : α → Int) (xs : List α) (i : Nat) (x : α) : Prop where
  getElem? : xs[i]? = some x
  least : ∀ y ∈ xs, key x ≤ key y
  first : ∀ k y, k < i → xs[k]? = some y → key x < key y

section
variable {α : Type} {key : α → Int} {xs : List α} {i : Nat} {x : α}

theorem firstLeast_singleton (x : α) : FirstLeast key [x] 0 x :=
  ⟨rfl, by simp, fun _ _ hk => absurd hk (Nat.not_lt_zero _)⟩

theorem FirstLeast.lt_length (h : FirstLeast key xs i x) : i < xs.length :=
  (List.getElem?_eq_some_iff.1 h.getElem?).1

/-- An element below all before it becomes the first least. -/
theorem firstLeast_snoc {y : α} (hy : ∀ z ∈ xs, key y < key z) :
    FirstLeast key (xs ++ [y]) xs.length y where
  getElem? := List.getElem?_concat_length
  least z hz := by
    obtain hz | hz := List.mem_append.1 hz
    · exact (hy z hz).le
    · rw [List.mem_singleton.1 hz]
  first k z hk hz := hy z (List.mem_of_getElem? ((List.getElem?_append_left hk) ▸ hz))

/-- An element that is not below the first least leaves it so. -/
theorem FirstLeast.append (h : FirstLeast key xs i x) {y : α} (hy : key x ≤ key y) :
    FirstLeast key (xs ++ [y]) i x where
  getElem? := (List.getElem?_append_left h.lt_length).trans h.getElem?
  least z hz := by
    obtain hz | hz := List.mem_append.1 hz
    · exact h.least z hz
    · rwa [List.mem_singleton.1 hz]
  first k z hk hz := h.first k z hk ((List.getElem?_append_left (hk.trans h.lt_length)) ▸ hz)

/-- The first least by a comparison that orders the elements as their keys are. -/
theorem FirstLeast.of_before (before : α → α → Bool) (h : FirstLeast key xs i x)
    (hbefore : ∀ a ∈ xs, ∀ b ∈ xs, before a b = decide (key a < key b)) :
    (∀ y ∈ xs, before y x = false) ∧
      ∀ k y, k < i → xs[k]? = some y → before x y = true := by
  have hx := List.mem_of_getElem? h.getElem?
  refine ⟨fun y hy => ?_, fun k y hk hy => ?_⟩
  · rw [hbefore y hy x hx, decide_eq_false (h.least y hy).not_gt]
  · rw [hbefore x hx y (List.mem_of_getElem? hy), decide_eq_true (h.first k y hk hy)]

end

theorem flt_eq_decide {a b : F32} (ha : isNaN a = false) (hb : isNaN b = false) :
    flt a b = decide (fkey a < fkey b) := by
  simp [flt, ha, hb]

/-! ## The extremes (R551, R552) -/

/-- The place of a point's projection among the projections. -/
def projection (axis : V3) (p : V4) : Int := fkey (dot3 (xyz p) axis)

/-- The running extremes are the first least and the first greatest projection so far. The greatest is
tested only where the least is not lowered, but one point never is below the least and above the
greatest. -/
theorem foldl_extremeStep {axis : V3} {p : V4} {ps : List V4}
    (hnan : ∀ r ∈ p :: ps, isNaN (dot3 (xyz r) axis) = false) :
    ∃ (i j : Nat) (a b : V4), FirstLeast (projection axis) (p :: ps) i a ∧
      FirstLeast (fun r => -projection axis r) (p :: ps) j b ∧
      ps.foldl (extremeStep axis) ⟨xyz p, xyz p, dot3 (xyz p) axis, dot3 (xyz p) axis⟩ =
        ⟨xyz a, xyz b, dot3 (xyz a) axis, dot3 (xyz b) axis⟩ := by
  induction ps using List.reverseRecOn with
  | nil => exact ⟨0, 0, p, p, firstLeast_singleton p, firstLeast_singleton p, rfl⟩
  | append_singleton ps r ih =>
    rw [← List.cons_append] at hnan ⊢
    obtain ⟨i, j, a, b, ha, hb, hfold⟩ := ih fun q hq => hnan q (List.mem_append_left _ hq)
    have hna := hnan a (List.mem_append_left _ (List.mem_of_getElem? ha.getElem?))
    have hnb := hnan b (List.mem_append_left _ (List.mem_of_getElem? hb.getElem?))
    have hnr := hnan r (by simp)
    have hab := hb.least a (List.mem_of_getElem? ha.getElem?)
    have hlow : flt (dot3 (xyz r) axis) (dot3 (xyz a) axis) =
        decide (projection axis r < projection axis a) := flt_eq_decide hnr hna
    have hhigh : fgt (dot3 (xyz r) axis) (dot3 (xyz b) axis) =
        decide (projection axis b < projection axis r) := flt_eq_decide hnb hnr
    rw [List.foldl_append, hfold, List.foldl_cons, List.foldl_nil, extremeStep]
    dsimp only
    rw [hlow, hhigh]
    simp only [decide_eq_true_eq]
    split_ifs with hr hr'
    · exact ⟨_, j, r, b, firstLeast_snoc fun q hq => hr.trans_le (ha.least q hq),
        hb.append (by omega), rfl⟩
    · exact ⟨i, _, a, r, ha.append (not_lt.1 hr),
        firstLeast_snoc fun q hq => (neg_lt_neg hr').trans_le (hb.least q hq), rfl⟩
    · exact ⟨i, j, a, b, ha.append (not_lt.1 hr), hb.append (neg_le_neg (not_lt.1 hr')), rfl⟩

/-- R551: the ends are the first point of least and the first of greatest projection. -/
structure AreExtremes (axis : V3) (ps : List V4) (i j : Nat) (a b : V4) : Prop where
  start_getElem? : ps[i]? = some a
  stop_getElem? : ps[j]? = some b
  bounds : ∀ r ∈ ps, flt (dot3 (xyz r) axis) (dot3 (xyz a) axis) = false ∧
    flt (dot3 (xyz b) axis) (dot3 (xyz r) axis) = false
  start_first : ∀ k r, k < i → ps[k]? = some r → flt (dot3 (xyz a) axis) (dot3 (xyz r) axis) = true
  stop_first : ∀ k r, k < j → ps[k]? = some r → flt (dot3 (xyz r) axis) (dot3 (xyz b) axis) = true

theorem exists_areExtremes {axis : V3} {ps : List V4} (hne : ps ≠ [])
    (hnan : ∀ r ∈ ps, isNaN (dot3 (xyz r) axis) = false) :
    ∃ (i j : Nat) (a b : V4), AreExtremes axis ps i j a b ∧ extremes axis ps = (xyz a, xyz b) := by
  obtain ⟨p, ps, rfl⟩ := List.exists_cons_of_ne_nil hne
  obtain ⟨i, j, a, b, ha, hb, hfold⟩ := foldl_extremeStep hnan
  obtain ⟨hlow, hlowFirst⟩ := ha.of_before
    (fun r s => flt (dot3 (xyz r) axis) (dot3 (xyz s) axis)) fun r hr s hs =>
      flt_eq_decide (hnan r hr) (hnan s hs)
  obtain ⟨hhigh, hhighFirst⟩ := hb.of_before
    (fun r s => flt (dot3 (xyz s) axis) (dot3 (xyz r) axis)) fun r hr s hs => by
      rw [flt_eq_decide (hnan s hs) (hnan r hr)]
      exact decide_eq_decide.2 neg_lt_neg_iff.symm
  refine ⟨i, j, a, b, ⟨ha.getElem?, hb.getElem?, fun r hr => ⟨hlow r hr, hhigh r hr⟩, hlowFirst,
    hhighFirst⟩, ?_⟩
  rw [extremes, hfold]

/-! ## The nearest code (R555) -/

section
variable (p : V4)

/-- The place of a code's distance; what is not below BIG, a NaN too, stands with BIG. -/
def nearness (c : V3) : Int :=
  if flt (codeDistance p c) cBig = true then fkey (codeDistance p c) else fkey cBig

theorem nearness_of_lt {c : V3} (h : flt (codeDistance p c) cBig = true) :
    nearness p c = fkey (codeDistance p c) := if_pos h

/-- The search's test against the least distance so far. -/
theorem flt_codeDistance {c : V3} {d : F32} (hd : isNaN d = false) (hle : fkey d ≤ fkey cBig) :
    flt (codeDistance p c) d = decide (nearness p c < fkey d) := by
  unfold nearness flt
  have hbig : isNaN cBig = false := by decide
  cases hc : isNaN (codeDistance p c)
  · simp only [hd, hbig, Bool.not_false, Bool.true_and, decide_eq_true_eq, decide_eq_decide]
    split_ifs <;> omega
  · simpa using hle

/-- Where the search stands after the codes `seen`: at its start, with all of them at BIG or beyond, or at
the first nearest of them. -/
def Search (seen : List V3) (d : F32) (best : Nat) : Prop :=
  (best = 0 ∧ d = cBig ∧ ∀ c ∈ seen, flt (codeDistance p c) cBig = false) ∨
  ∃ c, FirstLeast (nearness p) seen best c ∧ d = codeDistance p c ∧
    flt (codeDistance p c) cBig = true

variable {p} {seen : List V3} {d : F32} {best : Nat}

theorem search_start (p : V4) : Search p [] cBig 0 := .inl ⟨rfl, rfl, by simp⟩

theorem Search.isNaN_eq_false (h : Search p seen d best) : isNaN d = false := by
  obtain ⟨-, rfl, -⟩ | ⟨c, -, rfl, hc⟩ := h
  · decide
  · simp only [flt, Bool.and_eq_true, Bool.not_eq_true'] at hc
    exact hc.1.1

theorem Search.le_big (h : Search p seen d best) : fkey d ≤ fkey cBig := by
  obtain ⟨-, rfl, -⟩ | ⟨c, -, rfl, hc⟩ := h
  · exact le_rfl
  · exact (fkey_lt_of_flt hc).le

theorem Search.le_nearness (h : Search p seen d best) : ∀ c ∈ seen, fkey d ≤ nearness p c := by
  obtain ⟨-, rfl, hseen⟩ | ⟨c, hleast, rfl, hc⟩ := h
  · intro c hc
    rw [nearness, hseen c hc, if_neg Bool.false_ne_true]
  · rw [← nearness_of_lt p hc]
    exact hleast.least

/-- A nearer code takes the search over. -/
theorem Search.nearer (h : Search p seen d best) {c : V3} (hc : flt (codeDistance p c) d = true) :
    Search p (seen ++ [c]) (codeDistance p c) seen.length := by
  have hnear : nearness p c < fkey d := by
    rwa [flt_codeDistance p h.isNaN_eq_false h.le_big, decide_eq_true_eq] at hc
  refine .inr ⟨c, firstLeast_snoc fun z hz => hnear.trans_le (h.le_nearness z hz), rfl, ?_⟩
  rw [flt_codeDistance p (by decide) le_rfl, decide_eq_true_eq]
  exact hnear.trans_le h.le_big

/-- Any other code leaves the search where it stands. -/
theorem Search.not_nearer (h : Search p seen d best) {c : V3}
    (hc : flt (codeDistance p c) d = false) : Search p (seen ++ [c]) d best := by
  have hnear : fkey d ≤ nearness p c := by
    rwa [flt_codeDistance p h.isNaN_eq_false h.le_big, decide_eq_false_iff_not, not_lt] at hc
  obtain ⟨h0, rfl, hseen⟩ | ⟨b, hleast, rfl, hb⟩ := h
  · refine .inl ⟨h0, rfl, fun z hz => ?_⟩
    obtain hz | hz := List.mem_append.1 hz
    · exact hseen z hz
    · rwa [List.mem_singleton.1 hz]
  · exact .inr ⟨b, hleast.append ((nearness_of_lt p hb).le.trans hnear), rfl, hb⟩

theorem Search.nearestFrom (rest : List V3) (h : Search p seen d best) :
    ∃ d', Search p (seen ++ rest) d' (nearestFrom p rest seen.length d best) := by
  induction rest generalizing seen d best with
  | nil => exact ⟨d, by rwa [List.append_nil]⟩
  | cons c rest ih =>
    rw [Machine.nearestFrom, List.append_cons]
    have hlength : seen.length + 1 = (seen ++ [c]).length := by simp
    rw [hlength]
    split
    · next hc => exact ih (h.nearer hc)
    · next hc => exact ih (h.not_nearer (Bool.eq_false_of_not_eq_true hc))

theorem Search.lowestNearest {codes : List V3} (h : Search p codes d best) :
    lowestNearest codes p best := by
  have hnan := h.isNaN_eq_false
  have hbig := h.le_big
  obtain ⟨h0, -, hcodes⟩ | ⟨c, hleast, rfl, hc⟩ := h
  · exact .inl ⟨h0, hcodes⟩
  refine .inr ⟨c, hleast.getElem?, hc, fun b hb => ?_, fun k b hk hb => ?_⟩
  · refine (flt_codeDistance p hnan hbig).trans (decide_eq_false (not_lt.2 ?_))
    rw [← nearness_of_lt p hc]
    exact hleast.least b hb
  · refine (Bool.eq_false_or_eq_true (flt (codeDistance p b) cBig)).symm.imp id fun hb' => ?_
    have hlt := hleast.first k b hk hb
    rw [nearness_of_lt p hc, nearness_of_lt p hb'] at hlt
    have hnan' := (Search.nearer (search_start p) hb').isNaN_eq_false
    exact (flt_eq_decide hnan hnan').trans (decide_eq_true hlt)

end

theorem lt_length_of_lowestNearest {codes : List V3} {p : V4} {j : Nat} (hne : codes ≠ [])
    (h : lowestNearest codes p j) : j < codes.length := by
  obtain ⟨rfl, -⟩ | ⟨c, hc, -⟩ := h
  · exact List.length_pos_iff.2 hne
  · exact (List.getElem?_eq_some_iff.1 hc).1

/-- R555: two bits hold the number of a code. -/
theorem lowestNearest_nearestCode {codes : List V3} (hlength : codes.length = 4) (p : V4) :
    lowestNearest codes p (nearestCode codes p).toNat := by
  obtain ⟨d, hsearch⟩ := (search_start p).nearestFrom codes
  have hlowest : lowestNearest codes p (nearestFrom p codes 0 cBig 0) := hsearch.lowestNearest
  have hlt := lt_length_of_lowestNearest (List.ne_nil_of_length_eq_add_one hlength) hlowest
  rw [hlength] at hlt
  rwa [nearestCode, BitVec.toNat_ofNat, Nat.mod_eq_of_lt (show _ < 2 ^ 2 from hlt)]

/-- R555, with every distance below BIG. -/
theorem nearestCode_of_lt_big {codes : List V3} {p : V4} (hlength : codes.length = 4)
    (hbig : ∀ c ∈ codes, flt (codeDistance p c) cBig = true) :
    ∃ c, codes[(nearestCode codes p).toNat]? = some c ∧
      (∀ c' ∈ codes, flt (codeDistance p c') (codeDistance p c) = false) ∧
      ∀ k c', k < (nearestCode codes p).toNat → codes[k]? = some c' →
        flt (codeDistance p c) (codeDistance p c') = true := by
  have hnot {c : V3} (hc : c ∈ codes) : ¬ flt (rangeDistance p c) 0x7CF0BDC2 = false := by
    rw [Bool.not_eq_false]
    exact hbig c hc
  obtain ⟨-, hnone⟩ | ⟨c, hc, -, hleast, hfirst⟩ := lowestNearest_nearestCode hlength p
  · obtain ⟨c, hc⟩ := List.exists_mem_of_ne_nil _ (List.ne_nil_of_length_eq_add_one hlength)
    exact absurd (hnone c hc) (hnot hc)
  · exact ⟨c, hc, hleast, fun k d hk hd =>
      (hfirst k d hk hd).resolve_left (hnot (List.mem_of_getElem? hd))⟩

/-! ## The fit (R550 to R555) -/

theorem fit_of_no_point (p : Params) {cs : ColourSet} (axis : V3) (h : cs.points = []) :
    (rangeFit p cs axis).start = ⟨0, 0, 0⟩ ∧ (rangeFit p cs axis).stop = ⟨0, 0, 0⟩ := by
  have hzero : ∀ fused, quant3 fused zeroV3 = ⟨0, 0, 0⟩ := by decide
  rw [rangeFit, h]
  exact ⟨hzero _, hzero _⟩

theorem not_of_isNaN_eq_false {r : F32} {q : Prop} (h : CanonicalNanIff r q)
    (hr : isNaN r = false) : ¬ q := fun hq => by simp [h.eq_of hq, isNaN_qNaN] at hr

/-- R402: a NaN lane makes the projection a NaN. -/
theorem lanes_of_dot3 {v axis : V3} (h : isNaN (dot3 v axis) = false) :
    isNaN v.x = false ∧ isNaN v.y = false ∧ isNaN v.z = false := by
  have hadd {a b : F32} (hab : isNaN (fadd a b) = false) : isNaN a = false ∧ isNaN b = false := by
    have hnot := not_of_isNaN_eq_false (canonicalNanIff_fadd a b) hab
    simp only [not_or, Bool.not_eq_true] at hnot
    obtain ⟨ha, hb, -⟩ := hnot
    exact ⟨ha, hb⟩
  have hmul {a b : F32} (hab : isNaN (fmul a b) = false) : isNaN a = false := by
    obtain ⟨ha, -⟩ := not_or.1 (not_of_isNaN_eq_false (canonicalNanIff_fmul a b) hab)
    exact Bool.eq_false_of_not_eq_true ha
  obtain ⟨hxy, hz⟩ := hadd h
  obtain ⟨hx, hy⟩ := hadd hxy
  exact ⟨hmul hx, hmul hy, hmul hz⟩

theorem quantised_of_dot3 (fused : Bool) {v axis : V3} (h : isNaN (dot3 v axis) = false) :
    quantised fused v (quant3 fused v) := by
  obtain ⟨hx, hy, hz⟩ := lanes_of_dot3 h
  exact quantised_quant3 fused hx hy hz

theorem fit_of_points (p : Params) {cs : ColourSet} {axis : V3} (hne : cs.points ≠ [])
    (hnan : ∀ r ∈ cs.points, isNaN (dot3 (xyz r) axis) = false) :
    ∃ (i j : Nat) (a b : V4), AreExtremes axis cs.points i j a b ∧
      quantised p.maddFused (xyz a) (rangeFit p cs axis).start ∧
      quantised p.maddFused (xyz b) (rangeFit p cs axis).stop := by
  obtain ⟨i, j, a, b, hab, hends⟩ := exists_areExtremes hne hnan
  have ha := hnan a (List.mem_of_getElem? hab.start_getElem?)
  have hb := hnan b (List.mem_of_getElem? hab.stop_getElem?)
  refine ⟨i, j, a, b, hab, ?_, ?_⟩ <;> rw [rangeFit, hends]
  · exact quantised_of_dot3 _ ha
  · exact quantised_of_dot3 _ hb

section
variable (p : Params) (cs : ColourSet) (axis : V3) {s : Nat}

theorem fit_idx_getElem? : (rangeFit p cs axis).idx[s]? =
    cs.map[s]?.map fun m => m.elim 3 fun n => (cs.points.map (nearestCode
      (rangePalette (rangeFit p cs axis).start (rangeFit p cs axis).stop))).getD n 0 :=
  remapIndices_getElem? _ _ s

/-- R652: a slot without a point. -/
theorem fit_idx_of_none (h : cs.map[s]? = some none) : (rangeFit p cs axis).idx[s]? = some 3 := by
  rw [fit_idx_getElem?, h]
  rfl

/-- R555, R652: a slot with a point takes the point's code. -/
theorem fit_idx_of_point {m : Nat} {pt : V4} (h : cs.map[s]? = some (some m))
    (hpt : cs.points[m]? = some pt) : (rangeFit p cs axis).idx[s]? =
      some (nearestCode (rangePalette (rangeFit p cs axis).start (rangeFit p cs axis).stop) pt) := by
  rw [fit_idx_getElem?, h, Option.map_some, Option.elim_some, List.getD_eq_getElem?_getD,
    List.getElem?_map, hpt]
  rfl

end

/-- Settles O42: the extremes are first leasts of the projections and of their negatives, a lane's level
is its truncation, the search for a code keeps the first least distance, and the axis is iterated on
three lanes. -/
theorem rangeFitTakesExtremesAndNearestCodes :
    Obligations.RangeFitTakesExtremesAndNearestCodes := by
  refine ⟨fun axis ps hne hnan => ?_, fun pt codes => nearestCode_of_lt_big,
    fun fused v => quantised_quant3 fused, fun p cs axis => ⟨fit_of_no_point p axis,
      fun hne hnan => ?_, List.length_map _, fun s => ⟨fit_idx_of_none p cs axis,
        fun m pt hm hpt => ⟨_, fit_idx_of_point p cs axis hm hpt, lowestNearest_nearestCode rfl pt⟩⟩⟩,
    Axis.principalAxis_eq_iterate⟩
  · obtain ⟨i, j, a, b, ⟨ha, hb, hbounds, hi, hj⟩, hends⟩ := exists_areExtremes hne hnan
    exact ⟨i, j, a, b, ha, hb, hends, hbounds, hi, hj⟩
  · obtain ⟨i, j, a, b, ⟨ha, hb, hbounds, hi, hj⟩, hqa, hqb⟩ := fit_of_points p hne hnan
    exact ⟨i, j, a, b, ha, hb, hqa, hqb, hbounds, hi, hj⟩

end Sys2Proof.RangeFit
end

section
/-! SUPPORT. The partitions of a pass (44_cluster_fit.md R605): the three nested loops written with ranges of
split points, each with its run sum as a fold over a segment of the weighted points. -/

namespace Sys2Proof.Partitions

open Sys2Proof Sys2Proof.Machine

/-! ## Run sums -/

/-- The sum of the points from place `a` up to place `b`, accumulated from `acc` in index order. -/
def runSum (acc : V4) (pw : List V4) (a b : Nat) : V4 :=
  ((pw.take b).drop a).foldl (fun acc q => vadd q acc) acc

@[simp] theorem runSum_self (acc : V4) (pw : List V4) (a : Nat) : runSum acc pw a a = acc := by
  rw [runSum, List.drop_eq_nil_of_le (List.length_take_le _ _), List.foldl_nil]

theorem runSum_succ (acc : V4) {pw : List V4} {a b : Nat} (hab : a ≤ b) (hb : b < pw.length) :
    runSum acc pw a (b + 1) = vadd pw[b] (runSum acc pw a b) := by
  have hlength : a ≤ (pw.take b).length := by rw [List.length_take]; omega
  rw [runSum, List.take_add_one, List.getElem?_eq_getElem hb, List.drop_append_of_le_length hlength,
    List.foldl_append]
  rfl

/-- Run 2: with j = 0 it begins with the first point. -/
def run2Sum (pw : List V4) (j k : Nat) : V4 :=
  if j = 0 then runSum (pw.headD vzero) pw 1 k else runSum vzero pw j k

/-- The partition at a triple of split points. -/
def partitionAt (pw : List V4) (i j k : Nat) : Partition :=
  ⟨i, j, k, runSum vzero pw 0 i, runSum vzero pw i j, run2Sum pw j k⟩

/-! ## The loops as ranges -/

section
variable {pw : List V4} {i j k : Nat}

theorem partitionsK_eq (part0 part1 acc : V4) {a : Nat} (ha : a ≤ k) (hk : k ≤ pw.length) :
    partitionsK i j part0 part1 k (runSum acc pw a k) (pw.drop k) =
      (List.range' k (pw.length + 1 - k)).map fun k' =>
        ⟨i, j, k', part0, part1, runSum acc pw a k'⟩ := by
  induction hd : pw.length - k generalizing k with
  | zero =>
    have hlength : pw.length = k := by omega
    rw [List.drop_eq_nil_of_le hlength.le, partitionsK, hlength, Nat.add_sub_cancel_left]
    rfl
  | succ d ih =>
    have hlt : k < pw.length := by omega
    rw [List.drop_eq_getElem_cons hlt, partitionsK, ← runSum_succ acc ha hlt,
      ih (by omega) (by omega) (by omega), Nat.sub_add_comm hk, List.range'_succ, List.map_cons,
      Nat.add_sub_add_right]

/-- The innermost loop starts at k = j, or at k = 1 where j = 0. -/
theorem startK_eq (hne : pw ≠ []) (part0 part1 : V4) (hj : j ≤ pw.length) :
    startK i j part0 part1 (pw.drop j) =
      (List.range' (max j 1) (pw.length + 1 - max j 1)).map fun k =>
        ⟨i, j, k, part0, part1, run2Sum pw j k⟩ := by
  cases j with
  | zero =>
    obtain ⟨q, rest, rfl⟩ := List.exists_cons_of_ne_nil hne
    have hloop := partitionsK_eq (pw := q :: rest) (i := i) (j := 0) part0 part1 q le_rfl
      (Nat.succ_le_succ (Nat.zero_le rest.length))
    rw [runSum_self] at hloop
    exact hloop
  | succ j =>
    have hloop := partitionsK_eq (i := i) (j := j + 1) part0 part1 vzero le_rfl hj
    rw [runSum_self] at hloop
    rw [max_eq_left (Nat.le_add_left 1 j), startK]
    · exact hloop
    · intro _ _ h
      exact absurd h (Nat.succ_ne_zero j)

theorem partitionsJ_eq (part0 : V4) (hij : i ≤ j) (hj : j ≤ pw.length) :
    partitionsJ i part0 j (runSum vzero pw i j) (pw.drop j) =
      (List.range' j (pw.length + 1 - j)).flatMap fun j' =>
        startK i j' part0 (runSum vzero pw i j') (pw.drop j') := by
  induction hd : pw.length - j generalizing j with
  | zero =>
    have hlength : pw.length = j := by omega
    rw [List.drop_eq_nil_of_le hlength.le, partitionsJ, hlength, Nat.add_sub_cancel_left,
      List.range'_one, List.flatMap_singleton, List.drop_eq_nil_of_le hlength.le]
  | succ d ih =>
    have hlt : j < pw.length := by omega
    rw [List.drop_eq_getElem_cons hlt, partitionsJ, ← runSum_succ vzero hij hlt,
      ih (by omega) (by omega) (by omega), ← List.drop_eq_getElem_cons hlt, Nat.sub_add_comm hj,
      List.range'_succ, List.flatMap_cons, Nat.add_sub_add_right]

theorem partitionsI_eq (hi : i ≤ pw.length) :
    partitionsI i (runSum vzero pw 0 i) (pw.drop i) =
      (List.range' i (pw.length - i)).flatMap fun i' =>
        partitionsJ i' (runSum vzero pw 0 i') i' vzero (pw.drop i') := by
  induction hd : pw.length - i generalizing i with
  | zero => rw [List.drop_eq_nil_of_le (by omega), partitionsI, List.range'_zero, List.flatMap_nil]
  | succ d ih =>
    have hlt : i < pw.length := by omega
    rw [List.drop_eq_getElem_cons hlt, partitionsI, ← runSum_succ vzero (Nat.zero_le i) hlt,
      ih (by omega) (by omega), ← List.drop_eq_getElem_cons hlt, List.range'_succ,
      List.flatMap_cons]

end

/-- R605: the partitions of a pass, by their split points in visiting order. -/
theorem partitions_eq {pw : List V4} (hne : pw ≠ []) : partitions pw =
    (List.range' 0 pw.length).flatMap fun i => (List.range' i (pw.length + 1 - i)).flatMap fun j =>
      (List.range' (max j 1) (pw.length + 1 - max j 1)).map (partitionAt pw i j) := by
  have hloop := partitionsI_eq (Nat.zero_le pw.length)
  rw [runSum_self] at hloop
  refine hloop.trans (List.flatMap_congr fun i hi => ?_)
  rw [List.mem_range'_1] at hi
  have hloop := partitionsJ_eq (pw := pw) (runSum vzero pw 0 i) (le_refl i) (by omega)
  rw [runSum_self] at hloop
  refine hloop.trans (List.flatMap_congr fun j hj => ?_)
  rw [List.mem_range'_1] at hj
  exact startK_eq hne _ _ (by omega)

/-! ## Which partitions there are, and how many -/

theorem mem_partitions_iff {pw : List V4} (hne : pw ≠ []) (t : Partition) : t ∈ partitions pw ↔
    (t.i ≤ t.j ∧ t.j ≤ t.k ∧ t.k ≤ pw.length ∧ t.i < pw.length ∧ ¬ (t.i = 0 ∧ t.j = 0 ∧ t.k = 0)) ∧
      t = partitionAt pw t.i t.j t.k := by
  simp only [partitions_eq hne, List.mem_flatMap, List.mem_map, List.mem_range'_1]
  constructor
  · rintro ⟨i, hi, j, hj, k, hk, rfl⟩
    refine ⟨?_, rfl⟩
    change i ≤ j ∧ j ≤ k ∧ k ≤ pw.length ∧ i < pw.length ∧ ¬ (i = 0 ∧ j = 0 ∧ k = 0)
    omega
  · rintro ⟨ht, heq⟩
    exact ⟨t.i, by omega, t.j, by omega, t.k, by omega, heq.symm⟩

theorem pairwise_partitions {pw : List V4} (hne : pw ≠ []) : (partitions pw).Pairwise fun t u =>
    t.i < u.i ∨ (t.i = u.i ∧ (t.j < u.j ∨ (t.j = u.j ∧ t.k < u.k))) := by
  simp only [partitions_eq hne, List.pairwise_flatMap, List.pairwise_map, List.mem_flatMap,
    List.mem_map]
  refine ⟨fun i _ => ⟨fun j _ => ?_, ?_⟩, ?_⟩
  · exact (List.pairwise_lt_range').imp fun hk => .inr ⟨rfl, .inr ⟨rfl, hk⟩⟩
  · refine (List.pairwise_lt_range').imp ?_
    rintro j j' hj _ ⟨k, -, rfl⟩ _ ⟨k', -, rfl⟩
    exact .inr ⟨rfl, .inl hj⟩
  · refine (List.pairwise_lt_range').imp ?_
    rintro i i' hi _ ⟨j, -, k, -, rfl⟩ _ ⟨j', -, k', -, rfl⟩
    exact .inl hi

theorem length_partitionsK (i j : Nat) (part0 part1 : V4) (k : Nat) (part2 : V4) (rest : List V4) :
    (partitionsK i j part0 part1 k part2 rest).length = rest.length + 1 := by
  induction rest generalizing k part2 with
  | nil => rfl
  | cons q rest ih => rw [partitionsK, List.length_cons, ih, List.length_cons]

/-- Past j = 0 the two inner loops visit every pair j ≤ k. -/
theorem length_partitionsJ (i : Nat) (part0 : V4) (j : Nat) (part1 : V4) (rest : List V4) :
    (partitionsJ i part0 (j + 1) part1 rest).length = (rest.length + 2).choose 2 := by
  induction rest generalizing j part1 with
  | nil => rfl
  | cons q rest ih =>
    rw [partitionsJ, List.length_append, ih, startK, length_partitionsK, List.length_cons,
      Nat.choose_succ_succ' (rest.length + 2) 1, Nat.choose_one_right]
    intro _ _ h
    exact absurd h (Nat.succ_ne_zero j)

/-- Past i = 0 the loops visit every triple i ≤ j ≤ k but the one with i at the end. -/
theorem length_partitionsI (i : Nat) (part0 : V4) (rest : List V4) :
    (partitionsI (i + 1) part0 rest).length + 1 = (rest.length + 3).choose 3 := by
  induction rest generalizing i part0 with
  | nil => rfl
  | cons q rest ih =>
    rw [partitionsI, List.length_append, length_partitionsJ, Nat.add_assoc, ih, List.length_cons,
      Nat.choose_succ_succ' (rest.length + 3) 2]

/-- At i = 0 the triple (0, 0, 0) is left out. -/
theorem length_partitions {pw : List V4} (hne : pw ≠ []) :
    (partitions pw).length + 2 = (pw.length + 3).choose 3 := by
  obtain ⟨q, rest, rfl⟩ := List.exists_cons_of_ne_nil hne
  have hrest := length_partitionsI 0 (vadd q vzero) rest
  have hpairs : (rest.length + 3).choose 2 = rest.length + 2 + (rest.length + 2).choose 2 := by
    rw [Nat.choose_succ_succ' (rest.length + 2) 1, Nat.choose_one_right]
  have htriples : (rest.length + 1 + 3).choose 3 =
      (rest.length + 3).choose 2 + (rest.length + 3).choose 3 :=
    Nat.choose_succ_succ' (rest.length + 3) 2
  rw [partitions, partitionsI, partitionsJ, startK, List.length_append, List.length_append,
    length_partitionsJ, length_partitionsK, List.length_cons]
  omega

/-- Settles O43: the loops are ranges of split points with their run sums, and each loop's length is a
binomial coefficient. -/
theorem partitionsAreThoseOfTheLoop : Obligations.PartitionsAreThoseOfTheLoop := by
  intro pw hne
  refine ⟨length_partitions hne, pairwise_partitions hne, fun i j k => ⟨?_, fun h => ?_⟩,
    fun t ht => ?_⟩
  · rintro ⟨t, ht, rfl, rfl, rfl⟩
    obtain ⟨hsplit, -⟩ := (mem_partitions_iff hne t).1 ht
    exact hsplit
  · exact ⟨partitionAt pw i j k, (mem_partitions_iff hne _).2 ⟨h, rfl⟩, rfl, rfl, rfl⟩
  · obtain ⟨-, heq⟩ := (mem_partitions_iff hne t).1 ht
    rw [heq]
    exact ⟨rfl, rfl, rfl⟩

end Sys2Proof.Partitions
end

section
/-! SUPPORT. The order of the points along an axis (44_cluster_fit.md R603): the model's insertion keeps the
points it has sorted, last first, as an insertion sort does, and so each equal projection after the
earlier ones. -/

namespace Sys2Proof.Ordering

open Sys2Proof Sys2Proof.Machine Sys2Proof.RangeFit

/-- The projections with their point numbers. -/
def projections (axis : V3) (ps : List V4) : List (F32 × Nat) :=
  ps.zipIdx.map fun q => (dot3 (xyz q.1) axis, q.2)

/-- An entry goes before those of strictly larger projection. -/
abbrev notBelow (a b : F32 × Nat) : Prop := flt a.1 b.1 = false

theorem insertLast_eq (d : F32) (i : Nat) (sorted : List (F32 × Nat)) :
    insertLast d i sorted = sorted.orderedInsert notBelow (d, i) := by
  induction sorted with
  | nil => rfl
  | cons q rest ih =>
    rw [insertLast, ih, List.orderedInsert_cons]
    by_cases h : flt d q.1 = true
    · rw [if_pos h, if_neg (Bool.not_eq_false _ ▸ h)]
    · rw [if_neg h, if_pos (Bool.eq_false_of_not_eq_true h)]

theorem insertAll_eq (axis : V3) (ps : List V4) (i : Nat) (sorted : List (F32 × Nat)) :
    insertAll axis ps i sorted = ((ps.zipIdx i).map fun q => (dot3 (xyz q.1) axis, q.2)).foldl
      (fun acc q => acc.orderedInsert notBelow q) sorted := by
  induction ps generalizing i sorted with
  | nil => rfl
  | cons p ps ih =>
    rw [insertAll, ih, insertLast_eq]
    rfl

/-- The points in order with their projections. -/
theorem pointOrder_eq (axis : V3) (ps : List V4) : pointOrder axis ps =
    (((projections axis ps).reverse.insertionSort notBelow).reverse).map Prod.snd := by
  rw [pointOrder, insertAll_eq, List.insertionSort, List.foldr_reverse]
  rfl

theorem projections_snd (axis : V3) (ps : List V4) :
    (projections axis ps).map Prod.snd = List.range ps.length := by
  simp [projections, List.range_eq_range', Function.comp_def, List.zipIdx_map_snd]

theorem pointOrder_perm (axis : V3) (ps : List V4) :
    (pointOrder axis ps).Perm (List.range ps.length) := by
  rw [pointOrder_eq, ← projections_snd axis ps]
  exact ((List.reverse_perm _).trans ((List.perm_insertionSort _ _).trans (List.reverse_perm _))).map _

theorem length_pointOrder (axis : V3) (ps : List V4) : (pointOrder axis ps).length = ps.length :=
  (pointOrder_perm axis ps).length_eq.trans List.length_range

theorem fst_of_mem_projections {axis : V3} {ps : List V4} {q : F32 × Nat}
    (hq : q ∈ projections axis ps) :
    ps.getD q.2 vzero ∈ ps ∧ q.1 = dot3 (xyz (ps.getD q.2 vzero)) axis := by
  obtain ⟨⟨p, i⟩, hp, rfl⟩ := List.mem_map.1 hq
  have hget : ps[i]? = some p := List.mk_mem_zipIdx_iff_getElem?.1 hp
  rw [List.getD_eq_getElem?_getD, hget]
  exact ⟨List.mem_of_getElem? hget, rfl⟩

/-- R603: smaller in projection, or equal and of smaller number. -/
def Precedes (a b : F32 × Nat) : Prop :=
  flt a.1 b.1 = true ∨ (feq a.1 b.1 = true ∧ a.2 < b.2)

theorem Precedes.fkey_le {a b : F32 × Nat} (h : Precedes a b) : fkey a.1 ≤ fkey b.1 := by
  obtain h | ⟨h, -⟩ := h
  · exact (Selections.fkey_lt_of_flt h).le
  · simp only [feq, Bool.and_eq_true, beq_iff_eq] at h
    obtain ⟨-, hkey⟩ := h
    exact hkey.le

theorem precedes_of_fkey_le {a b : F32 × Nat} (ha : isNaN a.1 = false) (hb : isNaN b.1 = false)
    (hkey : fkey a.1 ≤ fkey b.1) (hnum : a.2 < b.2) : Precedes a b := by
  obtain hlt | heq := hkey.lt_or_eq
  · exact .inl ((flt_eq_decide ha hb).trans (decide_eq_true hlt))
  · exact .inr ⟨by simp [feq, ha, hb, heq], hnum⟩

/-- An entry that comes after all the sorted ones in number is put after those it does not precede. -/
theorem pairwise_orderedInsert {q : F32 × Nat} {sorted : List (F32 × Nat)}
    (hnan : ∀ r ∈ q :: sorted, isNaN r.1 = false) (hnum : ∀ r ∈ sorted, r.2 < q.2)
    (h : sorted.Pairwise fun a b => Precedes b a) :
    (sorted.orderedInsert notBelow q).Pairwise fun a b => Precedes b a := by
  have hq : isNaN q.1 = false := hnan q List.mem_cons_self
  induction sorted with
  | nil => exact List.pairwise_singleton _ q
  | cons r rest ih =>
    obtain ⟨hfirst, hrest⟩ := List.pairwise_cons.1 h
    have hr : isNaN r.1 = false := hnan r (by simp)
    rw [List.orderedInsert_cons]
    split_ifs with hqr
    · have hkey : fkey r.1 ≤ fkey q.1 := by
        rwa [notBelow, flt_eq_decide hq hr, decide_eq_false_iff_not, not_lt] at hqr
      refine List.pairwise_cons.2 ⟨fun b hb => ?_, h⟩
      refine precedes_of_fkey_le (hnan b (List.mem_cons_of_mem _ hb)) hq (le_trans ?_ hkey) (hnum b hb)
      obtain rfl | hb := List.mem_cons.1 hb
      · exact le_rfl
      · exact (hfirst b hb).fkey_le
    · refine List.pairwise_cons.2 ⟨fun b hb => ?_, ?_⟩
      · obtain rfl | hb := (List.mem_orderedInsert _).1 hb
        · exact .inl (Bool.eq_true_of_not_eq_false hqr)
        · exact hfirst b hb
      · refine ih (fun b hb => hnan b ?_) (fun b hb => hnum b (List.mem_cons_of_mem _ hb)) hrest
        obtain rfl | hb := List.mem_cons.1 hb
        · exact List.mem_cons_self
        · simp [hb]

theorem pairwise_insertionSort {entries : List (F32 × Nat)} (hnan : ∀ r ∈ entries, isNaN r.1 = false)
    (hnum : entries.Pairwise fun a b => b.2 < a.2) :
    (entries.insertionSort notBelow).Pairwise fun a b => Precedes b a := by
  induction entries with
  | nil => exact List.Pairwise.nil
  | cons q rest ih =>
    obtain ⟨hfirst, hrest⟩ := List.pairwise_cons.1 hnum
    have hmem {r : F32 × Nat} (hr : r ∈ rest.insertionSort notBelow) : r ∈ rest :=
      (List.mem_insertionSort _).1 hr
    refine pairwise_orderedInsert (fun r hr => hnan r ?_) (fun r hr => hfirst r (hmem hr))
      (ih (fun r hr => hnan r (List.mem_cons_of_mem _ hr)) hrest)
    obtain rfl | hr := List.mem_cons.1 hr
    · exact List.mem_cons_self
    · exact List.mem_cons_of_mem _ (hmem hr)

/-- Settles O44: an insertion sort permutes its entries, and those put in by rising number keep that order
where their projections are equal. -/
theorem orderingIsAStableSort : Obligations.OrderingIsAStableSort := by
  intro axis ps
  refine ⟨pointOrder_perm axis ps, fun hnan => ?_⟩
  have hmem {q : F32 × Nat} (hq : q ∈ ((projections axis ps).reverse.insertionSort notBelow).reverse) :
      q ∈ projections axis ps := by simpa using hq
  have hnum : (projections axis ps).Pairwise fun a b => a.2 < b.2 := by
    rw [← List.pairwise_map (f := Prod.snd), projections_snd]
    exact List.pairwise_lt_range
  rw [pointOrder_eq, List.pairwise_map]
  refine List.Pairwise.imp_of_mem (R := Precedes) (fun {a b} ha hb hab => ?_) ?_
  · obtain ⟨-, ha⟩ := fst_of_mem_projections (hmem ha)
    obtain ⟨-, hb⟩ := fst_of_mem_projections (hmem hb)
    dsimp only
    rwa [← ha, ← hb]
  · rw [List.pairwise_reverse]
    refine pairwise_insertionSort (fun q hq => ?_) (List.pairwise_reverse.2 hnum)
    obtain ⟨hp, hpq⟩ := fst_of_mem_projections (List.mem_reverse.1 hq)
    rw [hpq]
    exact hnan _ hp

end Sys2Proof.Ordering
end

section
/-! SUPPORT. One pass of cluster-fit (44_cluster_fit.md R606 to R609, R612): what the search of a list of
candidates keeps under either value of PARAM_CF_TIE, and what an evaluated partition is lane by lane. -/

namespace Sys2Proof.Passes

open Sys2Proof Sys2Proof.Machine Sys2Proof.Statements Sys2Proof.Selections Sys2Proof.Quantisation
  Sys2Proof.RangeFit

/-! ## Comparison of errors (00_scope.md R10) -/

theorem flt_eq_true_iff (a b : F32) :
    flt a b = true ↔ isNaN a = false ∧ isNaN b = false ∧ fkey a < fkey b := by
  simp [flt, and_assoc]

theorem isNaN_left_of_flt {a b : F32} (h : flt a b = true) : isNaN a = false :=
  ((flt_eq_true_iff a b).1 h).1

theorem flt_trans {a b c : F32} (hab : flt a b = true) (hbc : flt b c = true) : flt a c = true := by
  obtain ⟨ha, -, hlt⟩ := (flt_eq_true_iff a b).1 hab
  obtain ⟨-, hc, hlt'⟩ := (flt_eq_true_iff b c).1 hbc
  exact (flt_eq_true_iff a c).2 ⟨ha, hc, hlt.trans hlt'⟩

/-- What is not below a bound is no number, or above all that is below it. -/
theorem flt_of_not_flt {a b c : F32} (hab : flt a b = false) (hcb : flt c b = true) :
    isNaN a = true ∨ flt c a = true := by
  refine (Bool.eq_false_or_eq_true (isNaN a)).imp id fun ha => ?_
  obtain ⟨hc, hb, hlt⟩ := (flt_eq_true_iff c b).1 hcb
  rw [flt_eq_decide ha hb, decide_eq_false_iff_not, not_lt] at hab
  exact (flt_eq_true_iff c a).2 ⟨hc, ha, hlt.trans_le hab⟩

theorem feq_self {a : F32} (ha : isNaN a = false) : feq a a = true := by simp [feq, ha]

theorem isNaN_left_of_feq {a b : F32} (h : feq a b = true) : isNaN a = false := by
  cases ha : isNaN a <;> simp [feq, ha] at h ⊢

/-! ## The serial search (R609) -/

/-- The record of a candidate. -/
def recordOf (it : Nat) (c : Candidate) : Best := ⟨c.error, c.start, c.stop, c.i, c.j, c.k, it⟩

theorem updateBest_of_flt (it : Nat) {best : Best} {c : Candidate} (h : flt c.error best.error = true) :
    updateBest it best c = recordOf it c := if_pos h

theorem updateBest_of_not_flt (it : Nat) {best : Best} {c : Candidate}
    (h : flt c.error best.error = false) : updateBest it best c = best :=
  if_neg (Bool.not_eq_true _ ▸ h)

/-- `c` is the first of the candidates of smallest error, and below the error the search starts from. -/
def FirstBelow (bound : F32) (cs : List Candidate) (c : Candidate) : Prop :=
  ∃ before after, cs = before ++ c :: after ∧ flt c.error bound = true ∧
    (∀ d ∈ before, isNaN d.error = true ∨ flt c.error d.error = true) ∧
    ∀ d ∈ after, flt d.error c.error = false

theorem FirstBelow.mem {bound : F32} {cs : List Candidate} {c : Candidate} (h : FirstBelow bound cs c) :
    c ∈ cs := by
  obtain ⟨before, after, rfl, -⟩ := h
  simp

theorem FirstBelow.error_lt {bound : F32} {cs : List Candidate} {c : Candidate}
    (h : FirstBelow bound cs c) : flt c.error bound = true := by
  obtain ⟨-, -, -, hlt, -⟩ := h
  exact hlt

/-- A candidate that the rest of the search replaces is visited before the one that is kept. -/
theorem FirstBelow.cons {bound : F32} {cs : List Candidate} {c d : Candidate}
    (h : FirstBelow bound cs c) (hd : isNaN d.error = true ∨ flt c.error d.error = true) :
    FirstBelow bound (d :: cs) c := by
  obtain ⟨before, after, rfl, hlt, hbefore, hafter⟩ := h
  exact ⟨d :: before, after, rfl, hlt, List.forall_mem_cons.2 ⟨hd, hbefore⟩, hafter⟩

/-- A smaller bound is below a larger one. -/
theorem FirstBelow.trans {bound bound' : F32} {cs : List Candidate} {c : Candidate}
    (h : FirstBelow bound cs c) (hlt : flt bound bound' = true) : FirstBelow bound' cs c := by
  obtain ⟨before, after, hcs, hc, hbefore, hafter⟩ := h
  exact ⟨before, after, hcs, flt_trans hc hlt, hbefore, hafter⟩

/-- R609: the search keeps its record, or takes the first candidate of smallest error. -/
theorem passSerial_cases (it : Nat) (best : Best) (cs : List Candidate) :
    (passSerial it best cs = best ∧ ∀ c ∈ cs, flt c.error best.error = false) ∨
    ∃ c, FirstBelow best.error cs c ∧ passSerial it best cs = recordOf it c := by
  induction cs generalizing best with
  | nil => exact .inl ⟨rfl, by simp⟩
  | cons d cs ih =>
    have hstep : passSerial it best (d :: cs) = passSerial it (updateBest it best d) cs := rfl
    rw [hstep]
    cases hd : flt d.error best.error with
    | true =>
      rw [updateBest_of_flt it hd]
      obtain ⟨hkeep, hall⟩ | ⟨c, hc, hrecord⟩ := ih (recordOf it d)
      · exact .inr ⟨d, ⟨[], cs, rfl, hd, by simp, hall⟩, hkeep⟩
      · exact .inr ⟨c, (hc.trans hd).cons (.inr hc.error_lt), hrecord⟩
    | false =>
      rw [updateBest_of_not_flt it hd]
      obtain ⟨hkeep, hall⟩ | ⟨c, hc, hrecord⟩ := ih best
      · exact .inl ⟨hkeep, List.forall_mem_cons.2 ⟨hd, hall⟩⟩
      · exact .inr ⟨c, hc.cons (flt_of_not_flt hd hc.error_lt), hrecord⟩

/-! ## The candidates of a pass (R603, R605) -/

/-- The evaluated partitions of a pass, in visiting order. -/
def candidates (p : Params) (ps : List V4) (order : List Nat) : List Candidate :=
  (partitions (orderedPoints ps order)).map (evaluate p (orderedTotal ps order))

theorem runPass_serial {p : Params} (h : p.cfTie = .serial) (draw : Nat) (ps : List V4)
    (order : List Nat) (it : Nat) (best : Best) :
    runPass p draw ps order it best = passSerial it best (candidates p ps order) := by
  unfold runPass
  rw [h]
  rfl

theorem runPass_any {p : Params} (h : p.cfTie = .any) (draw : Nat) (ps : List V4) (order : List Nat)
    (it : Nat) (best : Best) : runPass p draw ps order it best =
      passAny (Config.cfTiePick draw it) it best (candidates p ps order) := by
  unfold runPass
  rw [h]
  rfl

/-! ## An evaluated partition lane by lane (R606 to R608) -/

/-- A lane of the four-lane operations: it commutes with them, and on it the constants of R601 have the
endpoint weights of a colour lane and the grid `g` of reciprocal `gr`. -/
structure ColourLane (l : V4 → F32) (g gr : F32) : Prop where
  map : ∀ f a, l (map4 f a) = f (l a)
  zip : ∀ f a b, l (zip4 f a b) = f (l a) (l b)
  zipc : ∀ f a b c, l (zipc4 f a b c) = f (l a) (l b) (l c)
  splat : ∀ a, l (bcast a) = a
  twoThirds : l cfTT = cTwoThirds
  oneThird : l cfOT = cOneThird
  grid : l cfG4 = g
  gridRecip : l cfGR4 = gr

theorem colourLane_x : ColourLane V4.x c31 cRcp31 :=
  ⟨fun _ _ => rfl, fun _ _ _ => rfl, fun _ _ _ _ => rfl, fun _ => rfl, rfl, rfl, rfl, rfl⟩

theorem colourLane_y : ColourLane V4.y c63 cRcp63 :=
  ⟨fun _ _ => rfl, fun _ _ _ => rfl, fun _ _ _ _ => rfl, fun _ => rfl, rfl, rfl, rfl, rfl⟩

theorem colourLane_z : ColourLane V4.z c31 cRcp31 :=
  ⟨fun _ _ => rfl, fun _ _ _ => rfl, fun _ _ _ _ => rfl, fun _ => rfl, rfl, rfl, rfl, rfl⟩

/-- The errors that R608 sums, in their lanes. -/
def errorLanes (fused : Bool) (r : Solve) (a b : V4) : V4 :=
  vmul (vmadd fused cfTwo4
    (vnmsub fused b r.bx (vnmsub fused a r.ax (vmul (vmul a b) r.ab)))
    (vmadd fused (vmul a a) r.a2 (vmul (vmul b b) r.b2))) cfMetric

theorem partitionError_eq (fused : Bool) (r : Solve) (a b : V4) :
    partitionError fused r a b = fadd (fadd (errorLanes fused r a b).x (errorLanes fused r a b).y)
      (errorLanes fused r a b).z := rfl

/-- R412 as the one choice it is. -/
theorem rcpCf_eq (p : Params) (x : F32) :
    rcpCf p x = if p.recipGuard = .epsilon then precip p.recipEps x else fdiv fone x := by
  unfold rcpCf recip
  cases p.recipGuard <;> rfl

section
variable {l : V4 → F32} {g gr : F32} (hl : ColourLane l g gr) (p : Params) (xs : V4) (t : Partition)
include hl

theorem ColourLane.quant4 (fused : Bool) (v : V4) : l (quant4 fused v) = quantLane fused g gr (l v) := by
  simp only [Machine.quant4, quantLane, vmul, vtrunc, vmadd, vclamp, cfHalf4, hl.zip, hl.map, hl.zipc,
    hl.splat, hl.grid, hl.gridRecip]

theorem ColourLane.solve_sums :
    (l (solve p xs t).ax, l (solve p xs t).bx) = runSums p.maddFused xs t l cTwoThirds cOneThird := by
  simp only [solve, runSums, vmadd, vsub, hl.zipc, hl.zip, hl.twoThirds, hl.oneThird]

theorem ColourLane.solve_weights : (l (solve p xs t).a2, l (solve p xs t).b2) =
    runSums p.maddFused xs t V4.w cFourNinths cOneNinth := by
  simp only [solve, splatW, hl.splat]
  rfl

theorem ColourLane.solve_ab :
    l (solve p xs t).ab = fmul cTwoNinths (fadd t.part1.w t.part2.w) := by
  simp only [solve, splatW, vmul, vadd, cfTN, hl.splat, hl.zip]
  rfl

theorem ColourLane.solve_ends : let r := solve p xs t
    let fac := rcpCf p (fnmsub p.maddFused (l r.ab) (l r.ab) (fmul (l r.a2) (l r.b2)))
    l r.a = fmul (fnmsub p.maddFused (l r.bx) (l r.ab) (fmul (l r.ax) (l r.b2))) fac ∧
    l r.b = fmul (fnmsub p.maddFused (l r.ax) (l r.ab) (fmul (l r.bx) (l r.a2))) fac := by
  simp only [solve, vmul, vnmsub, hl.zip, hl.zipc, hl.map, and_self]

theorem ColourLane.errorLanes_eq (fused : Bool) (r : Solve) (a b : V4) : l (errorLanes fused r a b) =
    fmul (fmadd fused cTwo
      (fnmsub fused (l b) (l r.bx) (fnmsub fused (l a) (l r.ax) (fmul (fmul (l a) (l b)) (l r.ab))))
      (fmadd fused (fmul (l a) (l a)) (l r.a2) (fmul (fmul (l b) (l b)) (l r.b2)))) fone := by
  simp only [errorLanes, vmul, vmadd, vnmsub, cfTwo4, cfMetric, hl.zip, hl.zipc, hl.splat]

/-- One lane of a partition is its lane of the closed form, quantised, and of the error. -/
theorem ColourLane.laneFit : laneFit p xs t l g gr =
    let r := solve p xs t
    let a := Machine.quant4 p.maddFused r.a
    let b := Machine.quant4 p.maddFused r.b
    (l a, l b, l (errorLanes p.maddFused r a b)) := by
  obtain ⟨ha, hb⟩ := hl.solve_ends p xs t
  rw [Statements.laneFit, show runSums p.maddFused xs t l 0x3F2AAAAB 0x3EAAAAAB = _ from
      (hl.solve_sums p xs t).symm, show runSums p.maddFused xs t V4.w 0x3EE38E39 0x3DE38E39 = _ from
      (hl.solve_weights p xs t).symm, show fmul 0x3E638E39 (fadd t.part1.w t.part2.w) = _ from
      (hl.solve_ab p xs t).symm]
  simp only [hl.errorLanes_eq, hl.quant4, ha, hb, rcpCf_eq]
  rfl

end

theorem evaluate_lanes (p : Params) (xs : V4) (t : Partition) :
    let x := laneFit p xs t V4.x c31 cRcp31
    let y := laneFit p xs t V4.y c63 cRcp63
    let z := laneFit p xs t V4.z c31 cRcp31
    evaluate p xs t = ⟨t.i, t.j, t.k, ⟨x.1, y.1, z.1⟩, ⟨x.2.1, y.2.1, z.2.1⟩,
      fadd (fadd x.2.2 y.2.2) z.2.2⟩ := by
  rw [colourLane_x.laneFit, colourLane_y.laneFit, colourLane_z.laneFit]
  rfl

/-! ## Grid colours (R607, R613) -/

theorem isNaN_of_fadd {a b : F32} (h : isNaN (fadd a b) = false) :
    isNaN a = false ∧ isNaN b = false := by
  have hnot := not_of_isNaN_eq_false (canonicalNanIff_fadd a b) h
  simp only [not_or, Bool.not_eq_true] at hnot
  obtain ⟨ha, hb, -⟩ := hnot
  exact ⟨ha, hb⟩

theorem isNaN_of_fmul {a b : F32} (h : isNaN (fmul a b) = false) : isNaN a = false := by
  obtain ⟨ha, -⟩ := not_or.1 (not_of_isNaN_eq_false (canonicalNanIff_fmul a b) h)
  exact Bool.eq_false_of_not_eq_true ha

theorem isNaN_of_fmadd {fused : Bool} {a b c : F32} (h : isNaN (fmadd fused a b c) = false) :
    isNaN b = false := by
  by_contra hb
  rw [fmadd_of_invalid fused (.inr (.inl (Bool.eq_true_of_not_eq_false hb))), isNaN_qNaN] at h
  exact Bool.noConfusion h

theorem isNaN_of_fnmsub {fused : Bool} {a b c : F32} (h : isNaN (fnmsub fused a b c) = false) :
    isNaN a = false ∧ isNaN c = false := by
  have hvalid : ¬ (isNaN a = true ∨ isNaN b = true ∨ isNaN c = true ∨ infTimesZero a b) :=
    fun hinvalid => by simp [fnmsub_of_invalid fused hinvalid, isNaN_qNaN] at h
  simp only [not_or, Bool.not_eq_true] at hvalid
  obtain ⟨ha, -, hc, -⟩ := hvalid
  exact ⟨ha, hc⟩

/-- R613: a lane that is a number is a grid level. -/
theorem quantLane_of_isNaN {fused : Bool} {g top gr v : F32} {limit : Nat} (hg : Grid g top limit)
    (h : isNaN (quantLane fused g gr v) = false) :
    ∃ q, q ≤ limit ∧ quantLane fused g gr v = fmul (f32OfNat q) gr := by
  have hv : isNaN v = false := by
    by_contra hv
    have hv : isNaN v = true := Bool.eq_true_of_not_eq_false hv
    rw [quantLane, clamp01_of_isNaN hv, fmadd_of_invalid fused (.inr (.inl hv)),
      ftrunc_of_isNaN isNaN_qNaN] at h
    exact Bool.noConfusion (isNaN_qNaN.symm.trans (isNaN_of_fmul h))
  obtain ⟨q, hq, heq, -⟩ := quantLane_level fused gr hg hv
  exact ⟨q, hq, heq⟩

/-- An error lane that is a number has numbers for both its endpoints. -/
theorem ColourLane.ends_of_errorLanes {l : V4 → F32} {g gr : F32} (hl : ColourLane l g gr) {fused : Bool}
    {r : Solve} {a b : V4} (h : isNaN (l (errorLanes fused r a b)) = false) :
    isNaN (l a) = false ∧ isNaN (l b) = false := by
  rw [hl.errorLanes_eq] at h
  obtain ⟨hb, hinner⟩ := isNaN_of_fnmsub (isNaN_of_fmadd (isNaN_of_fmul h))
  obtain ⟨ha, -⟩ := isNaN_of_fnmsub hinner
  exact ⟨ha, hb⟩

theorem gridColour_quant4 {fused : Bool} {v : V4} (hx : isNaN (quant4 fused v).x = false)
    (hy : isNaN (quant4 fused v).y = false) (hz : isNaN (quant4 fused v).z = false) :
    gridColour (xyz (quant4 fused v)) := by
  rw [colourLane_x.quant4] at hx
  rw [colourLane_y.quant4] at hy
  rw [colourLane_z.quant4] at hz
  obtain ⟨r, hr, hqr⟩ := quantLane_of_isNaN grid_c31 hx
  obtain ⟨g, hg, hqg⟩ := quantLane_of_isNaN grid_c63 hy
  obtain ⟨b, hb, hqb⟩ := quantLane_of_isNaN grid_c31 hz
  refine ⟨r, g, b, hr, hg, hb, ?_⟩
  rw [xyz, colourLane_x.quant4, colourLane_y.quant4, colourLane_z.quant4, hqr, hqg, hqb]
  rfl

theorem evaluate_gridColours {p : Params} {xs : V4} {t : Partition}
    (h : isNaN (evaluate p xs t).error = false) :
    gridColour (evaluate p xs t).start ∧ gridColour (evaluate p xs t).stop := by
  simp only [evaluate, partitionError_eq] at h
  obtain ⟨hxy, hz⟩ := isNaN_of_fadd h
  obtain ⟨hx, hy⟩ := isNaN_of_fadd hxy
  obtain ⟨hax, hbx⟩ := colourLane_x.ends_of_errorLanes hx
  obtain ⟨hay, hby⟩ := colourLane_y.ends_of_errorLanes hy
  obtain ⟨haz, hbz⟩ := colourLane_z.ends_of_errorLanes hz
  exact ⟨gridColour_quant4 hax hay haz, gridColour_quant4 hbx hby hbz⟩

/-- Settles O45: the search by its candidates from the front, a pass by its definition, and a partition
lane by lane. -/
theorem serialPassKeepsTheFirstSmallest : Obligations.SerialPassKeepsTheFirstSmallest := by
  refine ⟨fun it best cs => ?_, fun p draw ps order it best h => runPass_serial h draw ps order it best,
    fun p xs t => ⟨evaluate_lanes p xs t, evaluate_gridColours⟩⟩
  obtain hkeep | ⟨c, ⟨before, after, hcs, hlt, hbefore, hafter⟩, hrecord⟩ := passSerial_cases it best cs
  · exact .inl hkeep
  · exact .inr ⟨before, c, after, hcs, hlt, hrecord, hbefore, hafter⟩

/-! ## The search with free ties (R612) -/

/-- R612: the search is the serial one, but for which candidate of the smallest error it records. -/
theorem passAny_cases (pick it : Nat) (best : Best) (cs : List Candidate) :
    (passAny pick it best cs = best ∧ passSerial it best cs = best ∧
      ∀ c ∈ cs, flt c.error best.error = false) ∨
    ∃ c ∈ cs, feq c.error (passSerial it best cs).error = true ∧
      (∃ d ∈ cs, flt d.error best.error = true) ∧ (passSerial it best cs).iter = it ∧
      passAny pick it best cs = { recordOf it c with error := (passSerial it best cs).error } := by
  obtain ⟨hkeep, hall⟩ | ⟨d, hd, hrecord⟩ := passSerial_cases it best cs
  · refine .inl ⟨?_, hkeep, hall⟩
    have hnone : (cs.any fun c => flt c.error best.error) = false := by
      simpa [List.any_eq_false] using hall
    rw [passAny, hnone, if_neg Bool.false_ne_true, hkeep]
  · have hlt := hd.error_lt
    have hsome : (cs.any fun c => flt c.error best.error) = true :=
      List.any_eq_true.2 ⟨d, hd.mem, hlt⟩
    have hd_tie : d ∈ tiesOf (passSerial it best cs).error cs := by
      rw [hrecord]
      exact List.mem_filter.2 ⟨hd.mem, feq_self (isNaN_left_of_flt hlt)⟩
    obtain ⟨c, hc⟩ : ∃ c, (tiesOf (passSerial it best cs).error cs)[pick %
        (tiesOf (passSerial it best cs).error cs).length]? = some c :=
      ⟨_, List.getElem?_eq_getElem (Nat.mod_lt _ (List.length_pos_of_mem hd_tie))⟩
    obtain ⟨hmem, htie⟩ := List.mem_filter.1 (List.mem_of_getElem? hc)
    refine .inr ⟨c, hmem, htie, ⟨d, hd.mem, hlt⟩, by rw [hrecord]; rfl, ?_⟩
    rw [passAny, hsome, if_pos rfl]
    dsimp only
    rw [hc, hrecord]
    rfl

/-- Settles O46: a free pick is one of the candidates whose error equals the serial pass's. -/
theorem anyTieKeepsTheSerialErrorAndPass : Obligations.AnyTieKeepsTheSerialErrorAndPass := by
  refine ⟨fun pick it best cs => ?_, fun p draw ps order it best h =>
    ⟨_, runPass_any h draw ps order it best⟩⟩
  obtain ⟨hany, hserial, hall⟩ | ⟨c, hc, htie, ⟨d, hd, hlt⟩, hiter, hany⟩ :=
    passAny_cases pick it best cs
  · rw [hany, hserial]
    refine ⟨rfl, rfl, fun _ => rfl, ?_⟩
    rintro ⟨c, hc, hlt⟩
    rw [hall c hc] at hlt
    exact Bool.noConfusion hlt
  · rw [hany]
    refine ⟨rfl, hiter.symm, fun hall => ?_, fun _ => ⟨c, hc, htie, rfl, rfl, rfl, rfl, rfl⟩⟩
    rw [hall d hd] at hlt
    exact Bool.noConfusion hlt

end Sys2Proof.Passes
end

section
/-! SUPPORT. The passes of cluster-fit (44_cluster_fit.md R602, R611): the records and orderings of an
unbounded search, of which the model runs a first part, and why it stops where it does. -/

namespace Sys2Proof.Cluster

open Sys2Proof Sys2Proof.Machine Sys2Proof.Statements Sys2Proof.Partitions Sys2Proof.Ordering
  Sys2Proof.Passes

/-! ## What one pass can record -/

/-- R609, R612: under either tie rule a pass keeps its record or records a partition of its own whose
error is a number. -/
theorem runPass_cases (p : Params) (draw : Nat) (ps : List V4) (order : List Nat) (it : Nat)
    (best : Best) : runPass p draw ps order it best = best ∨
      ∃ c ∈ candidates p ps order, isNaN c.error = false ∧
        ∃ e, runPass p draw ps order it best = { recordOf it c with error := e } := by
  cases htie : p.cfTie with
  | serial =>
    rw [runPass_serial htie]
    obtain ⟨hkeep, -⟩ | ⟨c, hc, hrecord⟩ := passSerial_cases it best (candidates p ps order)
    · exact .inl hkeep
    · exact .inr ⟨c, hc.mem, isNaN_left_of_flt hc.error_lt, c.error, hrecord⟩
  | any =>
    rw [runPass_any htie]
    obtain ⟨hkeep, -⟩ | ⟨c, hc, hties, -, -, hrecord⟩ :=
      passAny_cases (Config.cfTiePick draw it) it best (candidates p ps order)
    · exact .inl hkeep
    · exact .inr ⟨c, hc, isNaN_left_of_feq hties, _, hrecord⟩

/-- What every record of a search over n points satisfies. -/
structure GoodRecord (n : Nat) (b : Best) : Prop where
  i_le : b.i ≤ b.j
  j_le : b.j ≤ b.k
  k_le : b.k ≤ n
  start : gridColour b.start
  stop : gridColour b.stop

theorem goodRecord_initial (n : Nat) : GoodRecord n Best.initial :=
  have hzero : gridColour zeroV3 :=
    ⟨0, 0, 0, Nat.zero_le _, Nat.zero_le _, Nat.zero_le _, by decide⟩
  ⟨le_rfl, le_rfl, Nat.zero_le n, hzero, hzero⟩

theorem GoodRecord.runPass {p : Params} {ps : List V4} {order : List Nat} {best : Best}
    (h : GoodRecord ps.length best) (horder : order.length = ps.length) (draw it : Nat) :
    GoodRecord ps.length (runPass p draw ps order it best) := by
  obtain hkeep | ⟨c, hc, hnan, e, hrecord⟩ := runPass_cases p draw ps order it best
  · rwa [hkeep]
  · obtain ⟨t, ht, rfl⟩ := List.mem_map.1 hc
    have hne : orderedPoints ps order ≠ [] := fun hnil => by simp [hnil, partitions, partitionsI] at ht
    have hlength : (orderedPoints ps order).length = ps.length := (List.length_map _).trans horder
    obtain ⟨⟨hij, hjk, hkn, -⟩, -⟩ := (mem_partitions_iff hne t).1 ht
    obtain ⟨hstart, hstop⟩ := evaluate_gridColours hnan
    rw [hrecord]
    exact ⟨hij, hjk, hlength ▸ hkn, hstart, hstop⟩

/-! ## The records and orderings of a search without end -/

section
variable (p : Params) (draw : Nat) (ps : List V4) (axis : V3)

/-- R602, R611: the ordering of pass `it`, along the axis given or that of the record before it. -/
def orderOf (it : Nat) (b : Best) : List Nat := pointOrder (if it = 0 then axis else nextAxis b) ps

/-- R611: the record before pass `it`, were every pass run. -/
def record : Nat → Best
  | 0 => Best.initial
  | it + 1 => runPass p draw ps (orderOf ps axis it (record it)) it (record it)

/-- The ordering of pass `it`. -/
def ordering (it : Nat) : List Nat := orderOf ps axis it (record p draw ps axis it)

/-- The orderings of the first n passes. -/
def orderings (n : Nat) : List (List Nat) := (List.range n).map (ordering p draw ps axis)

theorem orderings_succ (n : Nat) : orderings p draw ps axis (n + 1) =
    orderings p draw ps axis n ++ [ordering p draw ps axis n] := by
  rw [orderings, List.range_succ, List.map_append, ← orderings]
  rfl

theorem orderings_getElem? {n it : Nat} (h : it < n) :
    (orderings p draw ps axis n)[it]? = some (ordering p draw ps axis it) := by
  rw [orderings, List.getElem?_map, List.getElem?_range h, Option.map_some]

theorem length_orderings (n : Nat) : (orderings p draw ps axis n).length = n :=
  (List.length_map _).trans List.length_range

theorem ordering_succ (it : Nat) : ordering p draw ps axis (it + 1) =
    pointOrder (nextAxis (record p draw ps axis (it + 1))) ps := by
  rw [ordering, orderOf, if_neg (Nat.succ_ne_zero it)]

theorem goodRecord_record (it : Nat) : GoodRecord ps.length (record p draw ps axis it) := by
  induction it with
  | zero => exact goodRecord_initial _
  | succ it ih => exact ih.runPass (length_pointOrder _ _) draw it

theorem record_iter_le (it : Nat) : (record p draw ps axis (it + 1)).iter ≤ it := by
  have hstep (it : Nat) : record p draw ps axis (it + 1) = record p draw ps axis it ∨
      (record p draw ps axis (it + 1)).iter = it := by
    refine (runPass_cases p draw ps _ it (record p draw ps axis it)).imp id ?_
    rintro ⟨c, -, -, e, hrecord⟩
    rw [record, hrecord]
    rfl
  induction it with
  | zero =>
    obtain hkeep | hiter := hstep 0
    · rw [hkeep]
      rfl
    · exact hiter.le
  | succ it ih =>
    obtain hkeep | hiter := hstep (it + 1)
    · exact hkeep ▸ ih.trans it.le_succ
    · exact hiter.le

/-! ## Where the search stops (R611) -/

/-- A search that begins with pass `first` and may run up to pass number `limit` ends after n passes. -/
structure StopsAfter (first limit n : Nat) : Prop where
  first_lt : first < n
  le_limit : n ≤ limit
  continued : ∀ it, first ≤ it → it + 1 < n → (record p draw ps axis (it + 1)).iter = it ∧
    ordering p draw ps axis (it + 1) ∉ orderings p draw ps axis (it + 1)
  reason : (record p draw ps axis n).iter + 1 ≠ n ∨ n = limit ∨
    ordering p draw ps axis n ∈ orderings p draw ps axis n

variable {p draw ps axis}

theorem stopsAfter_one {it limit : Nat} (hlimit : it < limit)
    (h : (record p draw ps axis (it + 1)).iter ≠ it ∨ it + 1 = limit ∨
      ordering p draw ps axis (it + 1) ∈ orderings p draw ps axis (it + 1)) :
    StopsAfter p draw ps axis it limit (it + 1) where
  first_lt := it.lt_succ_self
  le_limit := hlimit
  continued m hm hlt := by omega
  reason := h.imp (fun hiter => by omega) id

theorem StopsAfter.cons {it limit n : Nat} (h : StopsAfter p draw ps axis (it + 1) limit n)
    (hiter : (record p draw ps axis (it + 1)).iter = it)
    (hnew : ordering p draw ps axis (it + 1) ∉ orderings p draw ps axis (it + 1)) :
    StopsAfter p draw ps axis it limit n where
  first_lt := it.lt_succ_self.trans h.first_lt
  le_limit := h.le_limit
  continued m hm hlt := by
    obtain rfl | hm := hm.eq_or_lt
    · exact ⟨hiter, hnew⟩
    · exact h.continued m hm hlt
  reason := h.reason

theorem StopsAfter.nodup_orderings {limit n : Nat} (h : StopsAfter p draw ps axis 0 limit n) :
    (orderings p draw ps axis n).Nodup := by
  have hnew (it : Nat) (hit : it < n) : ordering p draw ps axis it ∉ orderings p draw ps axis it := by
    cases it with
    | zero => exact List.not_mem_nil
    | succ it => exact (h.continued it (Nat.zero_le it) hit).2
  have hprefix (m : Nat) (hm : m ≤ n) : (orderings p draw ps axis m).Nodup := by
    induction m with
    | zero => exact List.nodup_nil
    | succ m ih =>
      rw [orderings_succ, List.nodup_append_comm, List.singleton_append, List.nodup_cons]
      exact ⟨hnew m hm, ih (m.le_succ.trans hm)⟩
  exact hprefix n le_rfl

variable (p draw ps axis)

/-- The passes from pass `it` on are the unbounded search, up to where it stops. -/
theorem passes_eq (left it : Nat) : ∃ n, StopsAfter p draw ps axis it (it + (left + 1)) n ∧
    passes p draw ps (left + 1) it (orderings p draw ps axis it) (ordering p draw ps axis it)
      (record p draw ps axis it) =
      ⟨record p draw ps axis n, orderings p draw ps axis n, n⟩ := by
  induction left generalizing it with
  | zero =>
    refine ⟨it + 1, stopsAfter_one (by omega) (.inr (.inl rfl)), ?_⟩
    rw [passes, ← orderings_succ, if_pos (.inr rfl)]
    rfl
  | succ left ih =>
    have hnext : pointOrder (zip3 fsub (record p draw ps axis (it + 1)).stop
        (record p draw ps axis (it + 1)).start) ps = ordering p draw ps axis (it + 1) :=
      (ordering_succ p draw ps axis it).symm
    have hpass : runPass p draw ps (ordering p draw ps axis it) it (record p draw ps axis it) =
      record p draw ps axis (it + 1) := rfl
    rw [passes, ← orderings_succ, hpass, hnext]
    dsimp only
    simp only [Nat.succ_ne_zero, or_false, List.contains_iff_mem]
    split_ifs with hiter hold
    · exact ⟨it + 1, stopsAfter_one (by omega) (.inl hiter), rfl⟩
    · exact ⟨it + 1, stopsAfter_one (by omega) (.inr (.inr hold)), rfl⟩
    · obtain ⟨n, hn, hpasses⟩ := ih (it + 1)
      rw [Nat.add_assoc, Nat.add_comm 1] at hn
      exact ⟨n, hn.cons (not_not.1 hiter) hold, hpasses⟩

theorem clusterSearch_eq : ∃ n, StopsAfter p draw ps axis 0 8 n ∧
    clusterSearch p draw ps axis = ⟨record p draw ps axis n, orderings p draw ps axis n, n⟩ :=
  passes_eq p draw ps axis 7 0

end

/-- Settles O47: the search is the first part of one whose records and orderings are a recurrence. -/
theorem clusterSearchRunsAtMostEightPasses : Obligations.ClusterSearchRunsAtMostEightPasses := by
  intro p draw ps axis
  obtain ⟨n, hn, hsearch⟩ := clusterSearch_eq p draw ps axis
  obtain ⟨last, rfl⟩ := Nat.exists_eq_add_one.2 hn.first_lt
  have hlength := length_orderings p draw ps axis (last + 1)
  have hgood := goodRecord_record p draw ps axis (last + 1)
  rw [hsearch]
  refine ⟨hn.first_lt, hn.le_limit, hlength,
    Nat.lt_succ_of_le (record_iter_le p draw ps axis last), hgood.i_le, hgood.j_le, hgood.k_le,
    hn.nodup_orderings, orderings_getElem? p draw ps axis hn.first_lt, hgood.start, hgood.stop,
    ⟨record p draw ps axis, rfl, rfl, fun it order horder => ?_, fun it hit => ?_⟩, ?_⟩
  · obtain ⟨hlt, -⟩ := List.getElem?_eq_some_iff.1 horder
    rw [orderings_getElem? p draw ps axis (hlength ▸ hlt), Option.some_inj] at horder
    rw [← horder]
    rfl
  · obtain ⟨hiter, -⟩ := hn.continued it (Nat.zero_le it) hit
    exact ⟨hiter, (orderings_getElem? p draw ps axis hit).trans
      (congrArg some (ordering_succ p draw ps axis it))⟩
  · rw [← ordering_succ]
    exact hn.reason

end Sys2Proof.Cluster
end

section
/-! SUPPORT. The serializer (45_serializer.md R652 to R655): its bytes read back as numbers, the order it
leaves the endpoints in, and the colour half of every encode as something it wrote. -/

namespace Sys2Proof.Serializing

open Sys2Proof Sys2Proof.Machine Sys2Proof.Statements Sys2Proof.SolidBlocks

/-! ## A colour block as numbers (30_encoding.md R310, 47_block_decoder.md R751) -/

theorem byteNat_of_lt (b : Block8) {k : Nat} (h : k < 8) : byteNat b k = b[k].toNat := by
  simp [byteNat, h]

/-- The low byte comes first (20_memory.md R200). -/
theorem append_toNat (hi lo : Byte) : (hi ++ lo).toNat = lo.toNat + 256 * hi.toNat := by
  rw [BitVec.toNat_append, ← Nat.shiftLeft_add_eq_or_of_lt lo.isLt]
  omega

theorem color0_toNat (b : Block8) : (color0 b).toNat = byteNat b 0 + 256 * byteNat b 1 := by
  rw [color0, append_toNat, byteNat_of_lt b (by decide), byteNat_of_lt b (by decide)]

theorem color1_toNat (b : Block8) : (color1 b).toNat = byteNat b 2 + 256 * byteNat b 3 := by
  rw [color1, append_toNat, byteNat_of_lt b (by decide), byteNat_of_lt b (by decide)]

theorem storedIndex_toNat (b : Block8) (i : Slot) :
    (storedIndex b i).toNat = byteNat b (4 + i.val / 4) / 4 ^ (i.val % 4) % 4 := by
  rw [storedIndex, BitVec.extractLsb'_toNat, Nat.shiftRight_eq_div_pow, pow_mul,
    byteNat_of_lt b (by omega)]
  rfl

/-! ## The order rule (R653) -/

theorem toNat_larger (a b : BitVec 16) : (if a < b then b else a).toNat = max a.toNat b.toNat := by
  split <;> bv_omega

theorem toNat_smaller (a b : BitVec 16) : (if a < b then a else b).toNat = min a.toNat b.toNat := by
  split <;> bv_omega

theorem larger_comm (a b : BitVec 16) : (if a < b then b else a) = if b < a then a else b :=
  BitVec.eq_of_toNat_eq (by rw [toNat_larger, toNat_larger, max_comm])

theorem smaller_comm (a b : BitVec 16) : (if a < b then a else b) = if b < a then b else a :=
  BitVec.eq_of_toNat_eq (by rw [toNat_smaller, toNat_smaller, min_comm])

theorem orderedIndex_self (a : BitVec 16) (i : BitVec 2) : orderedIndex a a i = 0 := by
  rw [orderedIndex, if_neg (BitVec.lt_irrefl a), if_pos rfl]

/-- R655: exactly one of the two orders flips the index, and equal endpoints drop it. -/
theorem orderedIndex_swap (a b : BitVec 16) (i : BitVec 2) :
    orderedIndex b a (i ^^^ 1) = orderedIndex a b i := by
  obtain hlt | rfl | hgt : a < b ∨ a = b ∨ b < a := by bv_omega
  · have hne : b ≠ a := by bv_omega
    rw [orderedIndex, orderedIndex, if_neg (BitVec.lt_asymm hlt), if_neg hne, if_pos hlt]
  · rw [orderedIndex_self, orderedIndex_self]
  · have hne : a ≠ b := by bv_omega
    rw [orderedIndex, orderedIndex, if_pos hgt, if_neg (BitVec.lt_asymm hgt), if_neg hne,
      BitVec.xor_assoc, BitVec.xor_self, BitVec.xor_zero]

theorem storedIndex_serializePacked_of_lt {a b : BitVec 16} {idx : List (BitVec 2)} {i : Slot}
    (h : i.val < idx.length) :
    storedIndex (serializePacked a b idx) i = orderedIndex a b (idx.getD i.val 0) := by
  rw [storedIndex_serializePacked, List.getD_eq_getElem?_getD, List.getElem?_map,
    List.getD_eq_getElem?_getD, List.getElem?_eq_getElem h]
  rfl

/-- Settles O49: the two orders exchange the roles of the endpoints and of the flipped indices. -/
theorem exchangedEndpointsGiveTheSameBlock : Obligations.ExchangedEndpointsGiveTheSameBlock := by
  intro a b idx _
  have hidx : (idx.map fun i => i ^^^ 1).map (orderedIndex b a) = idx.map (orderedIndex a b) := by
    rw [List.map_map]
    exact List.map_congr_left fun i _ => orderedIndex_swap a b i
  simp only [serializePacked, hidx, larger_comm a b, smaller_comm a b]

/-- Settles O50: the block read as numbers is the order rule on the packed values. -/
theorem serializerStoresEndpointsAndIndices : Obligations.SerializerStoresEndpointsAndIndices := by
  refine ⟨fun map src => ⟨List.length_map _, fun s => ⟨fun hnone => ?_, fun m v hm hv => ?_⟩⟩,
    fun start stop idx hlength => ?_⟩
  · rw [remapIndices_getElem?, hnone]
    rfl
  · rw [remapIndices_getElem?, hm, Option.map_some, Option.elim_some, List.getD_eq_getElem?_getD, hv]
    rfl
  · dsimp only
    rw [serialize, ← color0_toNat, ← color1_toNat, color0_serializePacked, color1_serializePacked]
    refine ⟨toNat_larger _ _, toNat_smaller _ _, fun i => ?_⟩
    rw [← storedIndex_toNat, storedIndex_serializePacked_of_lt (by omega), orderedIndex]

/-! ## Blocks in order (R654) -/

/-- R654 (1), (2). -/
def InOrder (b : Block8) : Prop :=
  (color1 b).toNat ≤ (color0 b).toNat ∧ (color0 b = color1 b → ∀ i : Slot, storedIndex b i = 0)

theorem inOrder_serializePacked (a b : BitVec 16) (idx : List (BitVec 2)) :
    InOrder (serializePacked a b idx) := by
  rw [InOrder, color0_serializePacked, color1_serializePacked]
  refine ⟨?_, fun heq i => ?_⟩
  · rw [toNat_smaller, toNat_larger]
    exact min_le_max
  · obtain rfl : a = b := by split at heq <;> simp [heq]
    rw [storedIndex_serializePacked, List.getD_eq_getElem?_getD, List.getElem?_map]
    cases idx[i.val]? with
    | none => rfl
    | some j => exact orderedIndex_self a j

/-- With equal endpoints both palettes begin with color0. -/
theorem InOrder.decodeColour_of_eq {b : Block8} (h : InOrder b) (heq : color0 b = color1 b)
    (mode : PaletteMode) (i : Slot) : decodeColour mode b i = unpack565 (color0 b) := by
  obtain ⟨-, hzero⟩ := h
  rw [decodeColour, hzero heq i]
  rfl

/-- R654 (3): the palette modes differ only where color0 ≤ color1. -/
theorem InOrder.decodeColour_dxt1 {b : Block8} (h : InOrder b) (i : Slot) :
    decodeColour .dxt1 b i = decodeColour .four b i := by
  by_cases heq : color0 b = color1 b
  · rw [h.decodeColour_of_eq heq, h.decodeColour_of_eq heq]
  · obtain ⟨hle, -⟩ := h
    have hlt : color1 b < color0 b := by bv_omega
    have hfour (mode : PaletteMode) : fourColours mode (color0 b) (color1 b) = true := by
      simp [fourColours, hlt]
    simp only [decodeColour, paletteColour, hfour]

/-- R800: whichever fitter is selected, the serializer writes the colour half. -/
theorem colourHalf_bytes (p : Params) (draw : Nat) (l : Latch) (mode : BuilderMode) (cf wa : Bool) :
    ∃ f : Fit, (colourHalf p draw l mode cf wa).bytes = serializeFit f := by
  simp only [colourHalf]
  split
  · exact ⟨_, rfl⟩
  · exact ⟨_, rfl⟩
  · exact ⟨_, rfl⟩

theorem inOrder_colourOf (s : State) (mode : BuilderMode) (cf wa : Bool) :
    InOrder (colourOf s mode cf wa).bytes := by
  obtain ⟨f, hf⟩ := colourHalf_bytes s.params s.freeTies s.latch mode cf wa
  rw [colourOf, hf]
  exact inOrder_serializePacked _ _ f.idx

/-- R801: where ENC_DXT1 puts its colour half. -/
theorem exec_encDxt1_lowHalf (s : State) (cf wa a1 : Bool) :
    ∃ t, exec (.encDxt1 cf wa a1) s = .next t ∧
      lowHalf t.blkOut = (colourOf s (if a1 then .dxt1a else .dxt1) cf wa).bytes :=
  ⟨_, rfl, lowHalf_joinHalves _ _⟩

/-- R802: where ENC_DXT3 puts its colour half. -/
theorem exec_encDxt3_highHalf (s : State) (cf wa : Bool) :
    ∃ t, exec (.encDxt3 cf wa) s = .next t ∧ highHalf t.blkOut = (colourOf s .dxt5 cf wa).bytes :=
  ⟨_, rfl, highHalf_joinHalves _ _⟩

/-- R803: where ENC_DXT5 puts its colour half. -/
theorem exec_encDxt5_highHalf (s : State) (cf wa : Bool) :
    ∃ t, exec (.encDxt5 cf wa) s = .next t ∧ highHalf t.blkOut = (colourOf s .dxt5 cf wa).bytes :=
  ⟨_, rfl, highHalf_joinHalves _ _⟩

/-- Settles O48: every colour half is the serializer's, so it is in order, and blocks in order decode
alike in both palette modes. -/
theorem emittedColourBlocksAreInOrder : Obligations.EmittedColourBlocksAreInOrder := by
  intro s cf wa a1
  obtain ⟨t1, ht1, hlow1⟩ := exec_encDxt1_lowHalf s cf wa a1
  obtain ⟨t3, ht3, hhigh3⟩ := exec_encDxt3_highHalf s cf wa
  obtain ⟨t5, ht5, hhigh5⟩ := exec_encDxt5_highHalf s cf wa
  have h1 : InOrder (lowHalf t1.blkOut) := hlow1 ▸ inOrder_colourOf s _ cf wa
  have h3 : InOrder (highHalf t3.blkOut) := hhigh3 ▸ inOrder_colourOf s _ cf wa
  have h5 : InOrder (highHalf t5.blkOut) := hhigh5 ▸ inOrder_colourOf s _ cf wa
  have hall : ∀ b ∈ [lowHalf t1.blkOut, highHalf t3.blkOut, highHalf t5.blkOut], InOrder b := by
    simp [h1, h3, h5]
  exact ⟨t1, t3, t5, ht1, ht3, ht5, hall, fun i =>
    ⟨h1.decodeColour_dxt1 i, fun heq => h1.decodeColour_of_eq heq .dxt1 i⟩⟩

end Sys2Proof.Serializing
end

section
/-! SUPPORT. An 8-byte block as one number (20_memory.md R200): its bytes, its nibbles and its 3-bit codes
are digits of the little-endian value, in base 256, 16 and 8. -/

namespace Sys2Proof.BlockDigits

open Sys2Proof Sys2Proof.Machine Sys2Proof.Statements Sys2Proof.Serializing

/-! ## Digits of a number -/

/-- Place i of a number written in digits. -/
theorem ofDigits_digit {base : Nat} (ds : List Nat) (h : ∀ d ∈ ds, d < base) (i : Nat) :
    Nat.ofDigits base ds / base ^ i % base = ds.getD i 0 := by
  rcases Nat.eq_zero_or_pos base with rfl | hbase
  · obtain rfl : ds = [] := List.eq_nil_iff_forall_not_mem.2 fun d hd => Nat.not_lt_zero d (h d hd)
    simp
  rw [Nat.ofDigits_div_pow_eq_ofDigits_drop i hbase ds h]
  rcases Nat.lt_or_ge i ds.length with hi | hi
  · rw [List.drop_eq_getElem_cons hi, Nat.ofDigits_cons, Nat.add_mul_mod_self_left,
      Nat.mod_eq_of_lt (h _ (List.getElem_mem hi)), List.getD_eq_getElem _ _ hi]
  · rw [List.drop_eq_nil_of_le hi, List.getD_eq_default _ _ hi, Nat.ofDigits_nil, Nat.zero_mod]

/-- The first n digits of a number, put together again. -/
theorem ofDigits_digits_range (base N n : Nat) :
    Nat.ofDigits base ((List.range n).map fun i => N / base ^ i % base) = N % base ^ n := by
  induction n with
  | zero => simp [Nat.mod_one]
  | succ n ih =>
    rw [List.range_succ, List.map_append, Nat.ofDigits_append, ih, List.length_map, List.length_range,
      pow_succ, Nat.mod_mul]
    simp

/-! ## Bytes -/

/-- The value of a block is the number of its bytes, the first the lowest. -/
theorem blockValue_toNat (b : Block8) :
    (blockValue b).toNat = Nat.ofDigits 256 ((List.range 8).map (byteNat b)) := by
  have hbytes (k : Nat) (h : k < 8) : b[k].toNat = byteNat b k := (byteNat_of_lt b h).symm
  rw [blockValue]
  repeat rw [BitVec.toNat_append, ← Nat.shiftLeft_add_eq_or_of_lt (BitVec.isLt _)]
  simp only [hbytes, Nat.shiftLeft_eq, List.range_succ, List.range_zero, List.nil_append,
    List.cons_append, List.map_cons, List.map_nil, Nat.ofDigits_cons, Nat.ofDigits_nil]
  omega

theorem byteNat_lt (b : Block8) (k : Nat) : byteNat b k < 256 := BitVec.isLt _

theorem byteNat_eq_digit (b : Block8) {k : Nat} (hk : k < 8) :
    byteNat b k = (blockValue b).toNat / 256 ^ k % 256 := by
  rw [blockValue_toNat, ofDigits_digit _ (by simp [byteNat_lt]),
    List.getD_eq_getElem _ _ (by simpa using hk)]
  simp

/-! ## Nibbles (30_encoding.md R311) -/

/-- The nibble of slot i as a digit of the value. -/
theorem byteNat_nibble (b : Block8) (i : Slot) :
    byteNat b (i.val / 2) / 16 ^ (i.val % 2) % 16 = (blockValue b).toNat / 16 ^ i.val % 16 := by
  have hpow : 16 ^ i.val = 256 ^ (i.val / 2) * 16 ^ (i.val % 2) := by
    rw [show 256 = 16 ^ 2 from rfl, ← pow_mul, ← pow_add, Nat.div_add_mod]
  rw [hpow, ← Nat.div_div_eq_div_mul, byteNat_eq_digit b (by omega)]
  obtain h | h := Nat.mod_two_eq_zero_or_one i.val <;> rw [h] <;> omega

/-- A number of 64 bits has 16 nibbles, and storing it in a block keeps them. -/
theorem blockOfValue_nibble (N : Nat) (i : Slot) :
    (blockValue (blockOfValue (BitVec.ofNat 64 N))).toNat / 16 ^ i.val % 16 = N / 16 ^ i.val % 16 := by
  have hpow : 2 ^ 64 = 16 ^ i.val * 16 ^ (15 - i.val + 1) := by
    rw [← pow_add, show i.val + (15 - i.val + 1) = 16 by omega]
    rfl
  rw [blockValue_blockOfValue, BitVec.toNat_ofNat, hpow, Nat.mod_mul_right_div_self,
    Nat.mod_mod_of_dvd _ (dvd_pow_self 16 (Nat.succ_ne_zero _))]

/-! ## 3-bit codes (30_encoding.md R312) -/

theorem codeAt_eq_digit (b : Block8) (i : Slot) :
    codeAt b i = (blockValue b).toNat / 2 ^ 16 / 2 ^ (3 * i.val) % 8 := by
  have h0 := byteNat_lt b 0
  have h1 := byteNat_lt b 1
  have hcodes : (blockValue b).toNat / 2 ^ 16 = byteNat b 2 + byteNat b 3 * 2 ^ 8 +
      byteNat b 4 * 2 ^ 16 + byteNat b 5 * 2 ^ 24 + byteNat b 6 * 2 ^ 32 + byteNat b 7 * 2 ^ 40 := by
    simp only [blockValue_toNat, List.range_succ, List.range_zero, List.nil_append,
      List.cons_append, List.map_cons, List.map_nil, Nat.ofDigits_cons, Nat.ofDigits_nil]
    omega
  rw [codeAt, hcodes]

theorem codeAt_lt (b : Block8) (i : Slot) : codeAt b i < 8 := Nat.mod_lt _ (by decide)

theorem storedCode_toNat (b : Block8) (i : Slot) : (storedCode b i).toNat = codeAt b i := by
  rw [storedCode, BitVec.extractLsb'_toNat, Nat.shiftRight_eq_div_pow, codeAt_eq_digit, pow_add,
    Nat.div_div_eq_div_mul]

/-! ## The packed block of the interpolated encoder (46_alpha_codec.md R706) -/

/-- The codes are digits in base 8, above the two end values. -/
theorem packAlpha_value (a0 a1 : Nat) (ind : List Nat) :
    (blockValue (packAlpha a0 a1 ind)).toNat =
      2 ^ 16 * Nat.ofDigits 8 ((List.range 16).map fun i => (code3 ind i).toNat) +
        256 * (a1 % 256) + a0 % 256 := by
  rw [packAlpha, blockValue_blockOfValue, codeGroup, codeGroup]
  repeat rw [BitVec.toNat_append, ← Nat.shiftLeft_add_eq_or_of_lt (BitVec.isLt _)]
  simp only [BitVec.toNat_ofNat, Nat.shiftLeft_eq, Nat.reduceAdd, List.range_succ, List.range_zero,
    List.nil_append, List.cons_append, List.map_cons, List.map_nil, Nat.ofDigits_cons, Nat.ofDigits_nil]
  omega

theorem byteNat_packAlpha_zero {a0 : Nat} (h : a0 < 256) (a1 : Nat) (ind : List Nat) :
    byteNat (packAlpha a0 a1 ind) 0 = a0 := by
  rw [byteNat_eq_digit _ (by decide), packAlpha_value]
  omega

theorem byteNat_packAlpha_one (a0 : Nat) {a1 : Nat} (h : a1 < 256) (ind : List Nat) :
    byteNat (packAlpha a0 a1 ind) 1 = a1 := by
  rw [byteNat_eq_digit _ (by decide), packAlpha_value]
  omega

theorem codeAt_packAlpha (a0 a1 : Nat) {ind : List Nat} {i : Slot} {c : Nat} (hc : c < 8)
    (h : ind[i.val]? = some c) : codeAt (packAlpha a0 a1 ind) i = c := by
  have hvalue : (blockValue (packAlpha a0 a1 ind)).toNat / 2 ^ 16 =
      Nat.ofDigits 8 ((List.range 16).map fun i => (code3 ind i).toNat) := by
    rw [packAlpha_value]
    omega
  have hdigits : ∀ d ∈ (List.range 16).map fun i => (code3 ind i).toNat, d < 8 := by
    simp only [List.mem_map]
    rintro _ ⟨k, -, rfl⟩
    exact BitVec.isLt _
  rw [codeAt_eq_digit, hvalue, pow_mul, show 2 ^ 3 = 8 from rfl, ofDigits_digit _ hdigits]
  simp [code3, h, Nat.mod_eq_of_lt hc]

end Sys2Proof.BlockDigits
end

section
/-! SUPPORT. Explicit alpha (46_alpha_codec.md R710, R711, R720): slot i's nibble is the level of its
alpha, and it decodes to 17 times itself. -/

namespace Sys2Proof.ExplicitAlpha

open Sys2Proof Sys2Proof.Machine Sys2Proof.Statements Sys2Proof.Builder Sys2Proof.Invariant
  Sys2Proof.BlockDigits

/-! ## The encoder (R710) -/

/-- The levels are digits in base 16. -/
theorem levelSum_eq (as : List (Option Nat)) (s : Nat) :
    levelSum as s = 16 ^ s * Nat.ofDigits 16 (as.map alphaLevel) := by
  induction as generalizing s with
  | nil => simp [levelSum]
  | cons a as ih =>
    rw [levelSum, ih, List.map_cons, Nat.ofDigits_cons, Nat.shiftLeft_eq, pow_mul, pow_succ]
    ring

theorem alphaLevel_lt {a : Option Nat} (h : ∀ v ∈ a, v ≤ 255) : alphaLevel a < 16 := by
  cases a with
  | none => decide
  | some v =>
    have hv := h v rfl
    rw [alphaLevel]
    omega

theorem encodeAlphaExplicit_nibble {as : List (Option Nat)} (h : ∀ a ∈ as, ∀ v ∈ a, v ≤ 255)
    {i : Slot} {a : Option Nat} (ha : as[i.val]? = some a) :
    (blockValue (encodeAlphaExplicit as)).toNat / 16 ^ i.val % 16 = alphaLevel a := by
  have hdigits : ∀ d ∈ as.map alphaLevel, d < 16 := by
    simp only [List.mem_map]
    rintro _ ⟨a, ha, rfl⟩
    exact alphaLevel_lt (h a ha)
  rw [encodeAlphaExplicit, blockOfValue_nibble, levelSum_eq, pow_zero, Nat.one_mul,
    ofDigits_digit _ hdigits]
  simp [ha]

/-! ## The decoder (R711) -/

theorem decodeAlphaExplicit_toNat (b : Block8) (i : Slot) :
    (decodeAlphaExplicit b i).toNat = 17 * ((blockValue b).toNat / 16 ^ i.val % 16) := by
  rw [decodeAlphaExplicit, BitVec.toNat_ofNat, BitVec.extractLsb'_toNat, Nat.shiftRight_eq_div_pow,
    pow_mul]
  exact Nat.mod_eq_of_lt (by omega)

/-- The decoded value is the nibble twice. -/
theorem seventeen_mul_eq_replicate {q : Nat} (h : q < 16) : 17 * q = (q <<< 4) ||| q := by
  rw [← Nat.shiftLeft_add_eq_or_of_lt (i := 4) h, Nat.shiftLeft_eq]
  omega

/-! ## Both together -/

theorem alphaLevel_seventeen_mul (q : Nat) : alphaLevel (some (17 * q)) = q := by
  rw [alphaLevel]
  omega

/-- The nearest of the levels is at most half a level away. -/
theorem seventeen_mul_alphaLevel_near (v : Nat) :
    (((17 * alphaLevel (some v) : Nat) : Int) - v).natAbs ≤ 8 := by
  rw [alphaLevel]
  omega

theorem encodeAlphaExplicit_decodeAlphaExplicit (b : Block8) :
    encodeAlphaExplicit (slots.map fun i => some (decodeAlphaExplicit b i).toNat) = b := by
  have hlevels : (slots.map fun i => some (decodeAlphaExplicit b i).toNat).map alphaLevel =
      (List.range 16).map fun k => (blockValue b).toNat / 16 ^ k % 16 := by
    rw [show List.range 16 = slots.map Fin.val from rfl]
    simp only [List.map_map, Function.comp_def, decodeAlphaExplicit_toNat, alphaLevel_seventeen_mul]
  rw [encodeAlphaExplicit, levelSum_eq, hlevels, ofDigits_digits_range, pow_zero, Nat.one_mul,
    Nat.mod_eq_of_lt (b := 16 ^ 16) (blockValue b).isLt, BitVec.ofNat_toNat, BitVec.setWidth_eq,
    blockOfValue_blockValue]

/-- Settles O54: nibbles are digits of the block's value, and an alpha is within 8 of 17 times its level. -/
theorem explicitAlphaIsAnIdentityOnBlocks : Obligations.ExplicitAlphaIsAnIdentityOnBlocks := by
  refine ⟨fun b i => ⟨?_, seventeen_mul_eq_replicate (Nat.mod_lt _ (by decide))⟩,
    encodeAlphaExplicit_decodeAlphaExplicit, fun as _ hle i a ha => ?_,
    fun l a ha => alphaList_le l _ ha a rfl⟩
  · rw [decodeAlphaExplicit_toNat, byteNat_nibble]
  · have hbound : ∀ a ∈ as, ∀ v ∈ a, v ≤ 255 := by
      rintro _ hmem v rfl
      exact hle v hmem
    rw [decodeAlphaExplicit_toNat, encodeAlphaExplicit_nibble hbound ha]
    exact seventeen_mul_alphaLevel_near a

/-! ## ENC_ALPHA_EXPLICIT (R720) -/

theorem alphaList_getElem? (l : Latch) (i : Slot) : (alphaList l)[i.val]? =
    some (if slotValid l i then some (pixA (slotPixel l i)).toNat else none) := by
  rw [alphaList, List.getElem?_map, slots_getElem?]
  rfl

/-- 10_state.md R118: the half that an 8-byte result leaves zero. -/
theorem joinHalves_zeroHalf_high (lo : Block8) (k : Fin 8) :
    (joinHalves lo zeroHalf)[k.val + 8] = 0 := by
  rw [joinHalves, Vector.getElem_append_right _ (Nat.le_add_left 8 _)]
  exact Vector.getElem_replicate ..

theorem exec_encAlphaExplicit (s : State) : exec .encAlphaExplicit s = .next { s with
    blkOut := joinHalves (encodeAlphaExplicit (alphaList s.latch)) zeroHalf
    diag := Diag.zero
    status := ⟨false, true, s.status.errcode⟩ } := completeEncode_eq _ _ s

/-- Settles O53: the nibble of slot i is the level of its entry in the alpha list. -/
theorem explicitAlphaStoresTheNearestLevel : Obligations.ExplicitAlphaStoresTheNearestLevel := by
  intro s
  refine ⟨_, exec_encAlphaExplicit s, rfl, fun i => ?_, joinHalves_zeroHalf_high _⟩
  rw [lowHalf_joinHalves, byteNat_nibble,
    encodeAlphaExplicit_nibble (alphaList_le s.latch) (alphaList_getElem? s.latch i)]
  split <;> rfl

end Sys2Proof.ExplicitAlpha
end

section
/-! SUPPORT. Interpolated alpha (46_alpha_codec.md R700 to R708, R721): the repaired ranges, the 8 codes of
a topology in the encoder's order, the first nearest of them for every slot, and the choice of topology. -/

namespace Sys2Proof.InterpolatedAlpha

open Sys2Proof Sys2Proof.Machine Sys2Proof.Statements Sys2Proof.Invariant Sys2Proof.SolidBlocks
  Sys2Proof.RangeFit Sys2Proof.Serializing Sys2Proof.BlockDigits Sys2Proof.ExplicitAlpha

/-! ## The decoder (R707) -/

/-- A mean of two bytes is a byte. -/
theorem mean_le {a0 a1 p q n : Nat} (h0 : a0 ≤ 255) (h1 : a1 ≤ 255) (hn : p + q = n) :
    (p * a0 + q * a1) / n ≤ 255 := by
  apply Nat.div_le_of_le_mul
  calc p * a0 + q * a1 ≤ p * 255 + q * 255 := by gcongr
    _ = n * 255 := by rw [← Nat.add_mul, hn]

theorem codeValue_le {a0 a1 c : Nat} (h0 : a0 ≤ 255) (h1 : a1 ≤ 255) (hc : c < 8) :
    codeValue a0 a1 c ≤ 255 := by
  unfold codeValue
  split_ifs
  · exact h0
  · exact h1
  · exact mean_le h0 h1 (by omega)
  · exact Nat.zero_le _
  · exact le_rfl
  · exact mean_le h0 h1 (by omega)

theorem alphaOfCode_eq (a0 a1 c : Nat) : alphaOfCode a0 a1 c = codeValue a0 a1 c := rfl

theorem decodeAlphaInterp_toNat (b : Block8) (i : Slot) :
    (decodeAlphaInterp b i).toNat = codeValue (byteNat b 0) (byteNat b 1) (codeAt b i) := by
  have hle : codeValue (byteNat b 0) (byteNat b 1) (codeAt b i) ≤ 255 :=
    codeValue_le (Nat.le_of_lt_succ (byteNat_lt b 0)) (Nat.le_of_lt_succ (byteNat_lt b 1))
      (codeAt_lt b i)
  rw [decodeAlphaInterp, storedCode_toNat, BitVec.toNat_ofNat, alphaOfCode_eq,
    ← byteNat_of_lt b (by decide), ← byteNat_of_lt b (by decide)]
  exact Nat.mod_eq_of_lt (Nat.lt_succ_of_le hle)

/-- Settles O55: a stored code is a digit of the block's value, and every code's value is a byte. -/
theorem interpolatedAlphaDecodesByItsCode : Obligations.InterpolatedAlphaDecodesByItsCode :=
  decodeAlphaInterp_toNat

/-! ## Ranges (R701, R702) -/

theorem fixRange_bounds {mn mx steps : Nat} (hmx : mx ≤ 255) (hsteps : steps ≤ 255) :
    (fixRange steps ⟨mn, mx⟩).max ≤ 255 ∧
      (fixRange steps ⟨mn, mx⟩).min + steps ≤ (fixRange steps ⟨mn, mx⟩).max := by
  simp only [fixRange, Nat.min_def]
  split_ifs <;> omega

/-- Settles O51: the natural form of the two statements is the signed one, log 10 of the model's notes. -/
theorem fixRangeMakesTheStepsAchievable : Obligations.FixRangeMakesTheStepsAchievable := by
  refine ⟨fun mn mx steps hmn hmx hsteps => ?_, by decide⟩
  refine ⟨?_, ?_, fixRange_bounds hmx (by omega)⟩
  all_goals
    simp only [fixRange, Nat.min_def]
    split_ifs <;> omega

theorem lower_eq_min (m v : Nat) : (if v < m then v else m) = min m v := by
  rw [min_comm, min_def_lt]

theorem raise_eq_max (m v : Nat) : (if v > m then v else m) = max m v := (max_def_lt m v).symm

/-- R701: the 7-step range holds the least and the greatest of the valid alphas. -/
theorem foldl_range7Step (as : List (Option Nat)) (r : AlphaRange) : as.foldl range7Step r =
    ⟨as.reduceOption.foldl min r.min, as.reduceOption.foldl max r.max⟩ := by
  induction as generalizing r with
  | nil => rfl
  | cons a as ih =>
    cases a with
    | none => exact ih r
    | some v =>
      rw [List.foldl_cons, ih, List.reduceOption_cons_of_some, List.foldl_cons, List.foldl_cons,
        range7Step, lower_eq_min, raise_eq_max]

/-- R701: the 5-step range leaves 0 out of the least and 255 out of the greatest. -/
theorem foldl_range5Step (as : List (Option Nat)) (r : AlphaRange) : as.foldl range5Step r =
    ⟨(as.reduceOption.filter fun v => v != 0).foldl min r.min,
      (as.reduceOption.filter fun v => v != 255).foldl max r.max⟩ := by
  induction as generalizing r with
  | nil => rfl
  | cons a as ih =>
    cases a with
    | none => exact ih r
    | some v =>
      rw [List.foldl_cons, ih, List.reduceOption_cons_of_some, List.filter_cons, List.filter_cons,
        range5Step]
      congr 1
      · by_cases hv : v = 0
        · simp [hv]
        · simp [hv, lower_eq_min]
      · by_cases hv : v = 255
        · simp [hv]
        · simp [hv, ← raise_eq_max]

/-- Every alpha of the list is a byte. -/
def Bytes (as : List (Option Nat)) : Prop := ∀ a ∈ as, ∀ v ∈ a, v ≤ 255

theorem Bytes.le_of_mem_reduceOption {as : List (Option Nat)} (h : Bytes as) {v : Nat}
    (hv : v ∈ as.reduceOption) : v ≤ 255 :=
  h _ (List.reduceOption_mem_iff.1 hv) v rfl

theorem Bytes.le_of_getElem? {as : List (Option Nat)} (h : Bytes as) {k v : Nat}
    (hv : as[k]? = some (some v)) : v ≤ 255 :=
  h _ (List.mem_of_getElem? hv) v rfl

theorem foldl_max_le {vs : List Nat} {bound m : Nat} (hm : m ≤ bound) (h : ∀ v ∈ vs, v ≤ bound) :
    vs.foldl max m ≤ bound := by
  induction vs generalizing m with
  | nil => exact hm
  | cons v vs ih =>
    exact ih (max_le hm (h v List.mem_cons_self)) fun w hw => h w (List.mem_cons_of_mem v hw)

theorem le_foldl_min_iff {vs : List Nat} {k m : Nat} :
    k ≤ vs.foldl min m ↔ k ≤ m ∧ ∀ v ∈ vs, k ≤ v := by
  induction vs generalizing m with
  | nil => simp
  | cons v vs ih => simp [ih, and_assoc]

theorem alphaRange5_bounds {as : List (Option Nat)} (h : Bytes as) :
    (alphaRange5 as).max ≤ 255 ∧ (alphaRange5 as).min + 5 ≤ (alphaRange5 as).max := by
  rw [alphaRange5, foldl_range5Step]
  exact fixRange_bounds (foldl_max_le (Nat.zero_le _) fun v hv =>
    h.le_of_mem_reduceOption (List.mem_of_mem_filter hv)) (by decide)

theorem alphaRange7_bounds {as : List (Option Nat)} (h : Bytes as) :
    (alphaRange7 as).max ≤ 255 ∧ (alphaRange7 as).min + 7 ≤ (alphaRange7 as).max := by
  rw [alphaRange7, foldl_range7Step]
  exact fixRange_bounds (foldl_max_le (Nat.zero_le _) fun v hv =>
    h.le_of_mem_reduceOption hv) (by decide)

/-! ## The 8 codes in the encoder's order (R703, R705) -/

theorem remapAlphaIndex_eq (c : Nat) : remapAlphaIndex c = encoderCode true c := by
  simp only [remapAlphaIndex, encoderCode]
  split_ifs <;> omega

theorem encoderCode_lt (sel7 : Bool) {c : Nat} (h : c < 8) : encoderCode sel7 c < 8 := by
  unfold encoderCode
  split_ifs <;> omega

/-- The renumbering of a 7-step selection undoes itself. -/
theorem encoderCode_encoderCode (sel7 : Bool) {c : Nat} (h : c < 8) :
    encoderCode sel7 (encoderCode sel7 c) = c := by
  unfold encoderCode
  split_ifs <;> omega

/-- What the 8 stored codes decode to, in the order the encoder numbers them. -/
def encoderCodes (sel7 : Bool) (a0 a1 : Nat) : List Nat :=
  (List.range 8).map fun j => codeValue a0 a1 (encoderCode sel7 j)

@[simp] theorem encoderCodes_length (sel7 : Bool) (a0 a1 : Nat) :
    (encoderCodes sel7 a0 a1).length = 8 := by
  simp [encoderCodes]

theorem encoderCodes_getElem? (sel7 : Bool) (a0 a1 : Nat) {j : Nat} (h : j < 8) :
    (encoderCodes sel7 a0 a1)[j]? = some (codeValue a0 a1 (encoderCode sel7 j)) := by
  simp [encoderCodes, h]

/-- A stored code's value stands at its place in the encoder's order. -/
theorem encoderCodes_getElem?_encoderCode (sel7 : Bool) (a0 a1 : Nat) {c : Nat} (h : c < 8) :
    (encoderCodes sel7 a0 a1)[encoderCode sel7 c]? = some (codeValue a0 a1 c) := by
  rw [encoderCodes_getElem? _ _ _ (encoderCode_lt sel7 h), encoderCode_encoderCode sel7 h]

theorem alphaCodes5_eq {r : AlphaRange} (h : r.min ≤ r.max) :
    alphaCodes5 r = encoderCodes false r.min r.max := by
  have hle : ¬ r.min > r.max := by omega
  simp [alphaCodes5, encoderCodes, encoderCode, alphaStep, codeValue, hle, List.range_succ]

theorem alphaCodes7_eq {r : AlphaRange} (h : r.min < r.max) :
    alphaCodes7 r = encoderCodes true r.max r.min := by
  simp [alphaCodes7, encoderCodes, encoderCode, alphaStep, codeValue, h, List.range_succ,
    Nat.add_comm]

/-! ## The nearest code (R704) -/

/-- The place of a code in order of distance from the value v. -/
def closeness (v code : Nat) : Int := squaredDifference v code

/-- The search continues with the first nearest of the codes before it. -/
theorem alphaNearestFrom_firstLeast {v : Nat} (rest : List Nat) {seen : List Nat} {i x : Nat}
    (h : FirstLeast (closeness v) seen i x) :
    ∃ y, FirstLeast (closeness v) (seen ++ rest)
        (alphaNearestFrom v rest seen.length (i, squaredDifference v x)).1 y ∧
      (alphaNearestFrom v rest seen.length (i, squaredDifference v x)).2 = squaredDifference v y := by
  induction rest generalizing seen i x with
  | nil => exact ⟨x, by rwa [List.append_nil], rfl⟩
  | cons code rest ih =>
    have hlen : seen.length + 1 = (seen ++ [code]).length := by simp
    rw [alphaNearestFrom, List.append_cons, hlen]
    split
    · next hlt =>
      exact ih (firstLeast_snoc fun z hz => (Int.ofNat_lt.2 hlt).trans_le (h.least z hz))
    · next hge => exact ih (h.append (Int.ofNat_le.2 (Nat.le_of_not_lt hge)))

theorem alphaNearest_firstLeast {codes : List Nat} (hne : codes ≠ []) (v : Nat) :
    ∃ y, FirstLeast (closeness v) codes (alphaNearest codes (some v)).1 y ∧
      (alphaNearest codes (some v)).2 = squaredDifference v y := by
  obtain ⟨code, rest, rfl⟩ := List.exists_cons_of_ne_nil hne
  exact alphaNearestFrom_firstLeast rest (firstLeast_singleton code)

/-- R704: the first nearest code is at the least distance. -/
theorem leastDistance_eq {sel7 : Bool} {a0 a1 v j y : Nat} (h0 : a0 ≤ 255) (h1 : a1 ≤ 255)
    (hv : v ≤ 255) (h : FirstLeast (closeness v) (encoderCodes sel7 a0 a1) j y) :
    leastDistance a0 a1 v = squaredDifference v y := by
  have hmem : ∃ c, c < 8 ∧ codeValue a0 a1 c = y := by
    have hy := List.mem_of_getElem? h.getElem?
    simp only [encoderCodes, List.mem_map, List.mem_range] at hy
    obtain ⟨c, hc, rfl⟩ := hy
    exact ⟨_, encoderCode_lt sel7 hc, rfl⟩
  obtain ⟨c, hc, rfl⟩ := hmem
  apply le_antisymm
  · exact (le_foldl_min_iff.1 le_rfl).2 _ (List.mem_map_of_mem (List.mem_range.2 hc))
  · refine le_foldl_min_iff.2 ⟨alphaDistance_le hv (codeValue_le h0 h1 hc), ?_⟩
    simp only [List.mem_map, List.mem_range]
    rintro _ ⟨d, hd, rfl⟩
    exact Int.ofNat_le.1 (h.least _
      (List.mem_of_getElem? (encoderCodes_getElem?_encoderCode sel7 a0 a1 hd)))

/-- What one slot of a topology takes: the first nearest code, at the least distance. -/
theorem alphaNearest_encoderCodes (sel7 : Bool) {a0 a1 v : Nat} (h0 : a0 ≤ 255) (h1 : a1 ≤ 255)
    (hv : v ≤ 255) :
    (∃ y, FirstLeast (closeness v) (encoderCodes sel7 a0 a1)
      (alphaNearest (encoderCodes sel7 a0 a1) (some v)).1 y) ∧
    (alphaNearest (encoderCodes sel7 a0 a1) (some v)).2 = leastDistance a0 a1 v := by
  have hne : encoderCodes sel7 a0 a1 ≠ [] := by simp [encoderCodes]
  obtain ⟨y, hy, hd⟩ := alphaNearest_firstLeast hne v
  exact ⟨⟨y, hy⟩, hd.trans (leastDistance_eq h0 h1 hv hy).symm⟩

/-- A "don't care" slot adds nothing to the error. -/
theorem alphaError_eq {sel7 : Bool} {a0 a1 : Nat} (h0 : a0 ≤ 255) (h1 : a1 ≤ 255)
    {as : List (Option Nat)} (h : Bytes as) : alphaError (encoderCodes sel7 a0 a1) as =
      (as.reduceOption.map (leastDistance a0 a1)).sum := by
  induction as with
  | nil => rfl
  | cons a as ih =>
    have ih := ih fun b hb => h b (List.mem_cons_of_mem a hb)
    rw [alphaError] at ih ⊢
    rw [List.map_cons, List.sum_cons, ih]
    cases a with
    | none => simp [alphaNearest]
    | some v =>
      have hv := h _ List.mem_cons_self v rfl
      rw [(alphaNearest_encoderCodes sel7 h0 h1 hv).2, List.reduceOption_cons_of_some, List.map_cons,
        List.sum_cons]

/-! ## The choice of topology (R705) -/

/-- A choice of topology with its end values, and the codes it stores. -/
structure IsChoice (as : List (Option Nat)) (c : AlphaChoice) : Prop where
  range5 : c.range5 = alphaRange5 as
  range7 : c.range7 = alphaRange7 as
  ends7 : c.sel7 = true → c.a0 = c.range7.max ∧ c.a1 = c.range7.min
  ends5 : c.sel7 = false → c.a0 = c.range5.min ∧ c.a1 = c.range5.max
  err5 : c.err5 = (as.reduceOption.map (leastDistance c.range5.min c.range5.max)).sum
  err7 : c.err7 = (as.reduceOption.map (leastDistance c.range7.max c.range7.min)).sum
  sel7 : c.sel7 = true ↔ c.err7 < c.err5
  ind : c.ind = as.map fun a =>
    encoderCode c.sel7 (alphaNearest (encoderCodes c.sel7 c.a0 c.a1) a).1

theorem isChoice_chooseAlpha {as : List (Option Nat)} (h : Bytes as) : IsChoice as (chooseAlpha as) := by
  obtain ⟨h5max, h5⟩ := alphaRange5_bounds h
  obtain ⟨h7max, h7⟩ := alphaRange7_bounds h
  have hcodes5 := alphaCodes5_eq (r := alphaRange5 as) (by omega)
  have hcodes7 := alphaCodes7_eq (r := alphaRange7 as) (by omega)
  have herr5 : alphaError (alphaCodes5 (alphaRange5 as)) as = _ :=
    hcodes5 ▸ alphaError_eq (by omega) (by omega) h
  have herr7 : alphaError (alphaCodes7 (alphaRange7 as)) as = _ :=
    hcodes7 ▸ alphaError_eq (by omega) (by omega) h
  have hid (j : Nat) : encoderCode false j = j := rfl
  simp only [chooseAlpha]
  split
  · next hlt =>
    exact ⟨rfl, rfl, fun _ => ⟨rfl, rfl⟩, nofun, herr5, herr7, iff_of_true rfl hlt, by
      simp [alphaIndices, hcodes7, remapAlphaIndex_eq]⟩
  · next hge =>
    exact ⟨rfl, rfl, nofun, fun _ => ⟨rfl, rfl⟩, herr5, herr7, iff_of_false Bool.false_ne_true hge, by
      simp [alphaIndices, hcodes5, hid]⟩

/-- The smaller error is that of the topology taken. -/
theorem IsChoice.min_error {as : List (Option Nat)} {c : AlphaChoice} (hc : IsChoice as c) :
    min c.err5 c.err7 = (as.reduceOption.map (leastDistance c.a0 c.a1)).sum := by
  have hsel := hc.sel7
  cases hs : c.sel7
  · obtain ⟨h0, h1⟩ := hc.ends5 hs
    rw [h0, h1, ← hc.err5]
    exact min_eq_left (by simpa [hs] using hsel)
  · obtain ⟨h0, h1⟩ := hc.ends7 hs
    rw [h0, h1, ← hc.err7]
    exact min_eq_right (hsel.1 hs).le

section
variable {as : List (Option Nat)} {c : AlphaChoice} (hc : IsChoice as c) (h : Bytes as)
include hc h

theorem IsChoice.range_bounds : (c.range5.max ≤ 255 ∧ c.range5.min + 5 ≤ c.range5.max) ∧
    (c.range7.max ≤ 255 ∧ c.range7.min + 7 ≤ c.range7.max) := by
  rw [hc.range5, hc.range7]
  exact ⟨alphaRange5_bounds h, alphaRange7_bounds h⟩

/-- The end values are bytes, in the order that tells the decoder the topology. -/
theorem IsChoice.ends_order : c.a0 ≤ 255 ∧ c.a1 ≤ 255 ∧ (c.sel7 = true ↔ c.a1 < c.a0) := by
  obtain ⟨⟨h5max, h5⟩, h7max, h7⟩ := hc.range_bounds h
  cases hs : c.sel7
  · obtain ⟨h0, h1⟩ := hc.ends5 hs
    exact ⟨by omega, by omega, nofun, by omega⟩
  · obtain ⟨h0, h1⟩ := hc.ends7 hs
    exact ⟨by omega, by omega, fun _ => by omega, fun _ => rfl⟩

theorem IsChoice.byteNat_alphaBlock :
    byteNat (alphaBlock c) 0 = c.a0 ∧ byteNat (alphaBlock c) 1 = c.a1 := by
  obtain ⟨h0, h1, -⟩ := hc.ends_order h
  exact ⟨byteNat_packAlpha_zero (Nat.lt_succ_of_le h0) _ _,
    byteNat_packAlpha_one _ (Nat.lt_succ_of_le h1) _⟩

/-- The stored code of a slot is its index, renumbered (R705, R706). -/
theorem IsChoice.codeAt_eq {i : Slot} {a : Option Nat} (ha : as[i.val]? = some a) :
    codeAt (alphaBlock c) i =
      encoderCode c.sel7 (alphaNearest (encoderCodes c.sel7 c.a0 c.a1) a).1 := by
  obtain ⟨h0, h1, -⟩ := hc.ends_order h
  refine codeAt_packAlpha _ _ (encoderCode_lt _ ?_) (by simp [hc.ind, ha])
  cases a with
  | none => exact Nat.zero_lt_succ 7
  | some v =>
    obtain ⟨⟨y, hy⟩, -⟩ := alphaNearest_encoderCodes c.sel7 h0 h1 (h.le_of_getElem? ha)
    simpa using hy.lt_length

/-- R708 (1): a valid slot decodes to the first nearest of the codes in the encoder's order. -/
theorem IsChoice.decodes_firstLeast {i : Slot} {v : Nat} (ha : as[i.val]? = some (some v)) :
    FirstLeast (closeness v) (encoderCodes c.sel7 c.a0 c.a1)
      (encoderCode c.sel7 (codeAt (alphaBlock c) i)) (decodeAlphaInterp (alphaBlock c) i).toNat := by
  obtain ⟨h0, h1, -⟩ := hc.ends_order h
  obtain ⟨⟨y, hy⟩, -⟩ := alphaNearest_encoderCodes c.sel7 h0 h1 (h.le_of_getElem? ha)
  have hj := hy.lt_length
  rw [encoderCodes_length] at hj
  have hval := Option.some.inj ((encoderCodes_getElem? c.sel7 c.a0 c.a1 hj).symm.trans hy.getElem?)
  obtain ⟨hbyte0, hbyte1⟩ := hc.byteNat_alphaBlock h
  rw [decodeAlphaInterp_toNat, hc.codeAt_eq h ha, hbyte0, hbyte1, encoderCode_encoderCode _ hj, hval]
  exact hy

end

/-! ## ENC_ALPHA_INTERP (R721) -/

/-- The alpha list without its "don't care" entries (R507). -/
theorem reduceOption_alphaList (l : Latch) : (alphaList l).reduceOption = validAlphas l := by
  have hchannel (i : Slot) : (pixA (slotPixel l i)).toNat = channelNat (slotPixel l i) 3 :=
    byteOfWord_toNat _ 3
  rw [validAlphas, alphaList]
  induction slots with
  | nil => rfl
  | cons i is ih =>
    cases hi : slotValid l i
    · rw [List.filter_cons_of_neg (by simp [hi]), ← ih, List.map_cons, hi]
      exact List.reduceOption_cons_of_none _
    · rw [List.filter_cons_of_pos hi, List.map_cons, List.map_cons, if_pos hi, hchannel]
      exact (List.reduceOption_cons_of_some _ _).trans (congrArg _ ih)

theorem alphaList_getElem?_of_valid {l : Latch} {i : Slot} (hi : slotValid l i = true) :
    (alphaList l)[i.val]? = some (some (channelNat (slotPixel l i) 3)) := by
  rw [alphaList_getElem?, if_pos hi, pixA, byteOfWord_toNat]

/-- R704: an invalid slot takes the encoder's first code. -/
theorem IsChoice.codeAt_of_invalid {l : Latch} {c : AlphaChoice} (hc : IsChoice (alphaList l) c)
    {i : Slot} (hi : slotValid l i = false) : codeAt (alphaBlock c) i = encoderCode c.sel7 0 := by
  have ha : (alphaList l)[i.val]? = some none := by simp [alphaList_getElem?, hi]
  rw [hc.codeAt_eq (alphaList_le l) ha]
  rfl

/-- R708 (1): the valid slots of the block stand together as far from their alphas as the smaller error
says. -/
theorem IsChoice.total_error {l : Latch} {c : AlphaChoice} (hc : IsChoice (alphaList l) c) :
    ((slots.filter fun i => slotValid l i).map fun i => squaredDifference
      (channelNat (slotPixel l i) 3) (decodeAlphaInterp (alphaBlock c) i).toNat).sum =
        min c.err5 c.err7 := by
  have hbytes : Bytes (alphaList l) := alphaList_le l
  obtain ⟨h0, h1, -⟩ := hc.ends_order hbytes
  rw [hc.min_error, reduceOption_alphaList, validAlphas, List.map_map]
  refine congrArg List.sum (List.map_congr_left fun i hi => ?_)
  have ha := alphaList_getElem?_of_valid (List.of_mem_filter hi)
  rw [Function.comp_apply]
  exact (leastDistance_eq h0 h1 (hbytes.le_of_getElem? ha) (hc.decodes_firstLeast hbytes ha)).symm

/-- R704: no code is nearer than the one a valid slot stores, and none of a lower number is as near. -/
theorem IsChoice.nearest {l : Latch} {c : AlphaChoice} (hc : IsChoice (alphaList l) c) {i : Slot}
    (hi : slotValid l i = true) {k : Nat} (hk : k < 8) :
    squaredDifference (channelNat (slotPixel l i) 3) (decodeAlphaInterp (alphaBlock c) i).toNat ≤
      squaredDifference (channelNat (slotPixel l i) 3) (codeValue c.a0 c.a1 k) ∧
    (encoderCode c.sel7 k < encoderCode c.sel7 (codeAt (alphaBlock c) i) →
      squaredDifference (channelNat (slotPixel l i) 3) (decodeAlphaInterp (alphaBlock c) i).toNat <
        squaredDifference (channelNat (slotPixel l i) 3) (codeValue c.a0 c.a1 k)) := by
  have hfirst := hc.decodes_firstLeast (alphaList_le l) (alphaList_getElem?_of_valid hi)
  have hk := encoderCodes_getElem?_encoderCode c.sel7 c.a0 c.a1 hk
  exact ⟨Int.ofNat_le.1 (hfirst.least _ (List.mem_of_getElem? hk)),
    fun hlt => Int.ofNat_lt.1 (hfirst.first _ _ hlt hk)⟩

/-! ## The diagnostic registers (10_state.md R110 to R112) -/

theorem IsChoice.aRange_toNat {as : List (Option Nat)} {c : AlphaChoice} (hc : IsChoice as c)
    (h : Bytes as) :
    (diagARangeWord c.range5.min c.range5.max c.range7.min c.range7.max).toNat =
      c.range5.min + 2 ^ 8 * c.range5.max + 2 ^ 16 * c.range7.min + 2 ^ 24 * c.range7.max := by
  obtain ⟨⟨h5max, h5⟩, h7max, h7⟩ := hc.range_bounds h
  rw [diagARangeWord, wordOfBytes_toNat]
  simp only [BitVec.toNat_ofNat]
  omega

theorem diagASelWord_toNat (sel7 : Bool) : (diagASelWord sel7).toNat = encoderCode sel7 0 := by
  cases sel7 <;> rfl

theorem diagASelWord_eq_one_iff (sel7 : Bool) : diagASelWord sel7 = 1 ↔ sel7 = true := by
  cases sel7 <;> decide

theorem diagASelWord_eq_zero_iff (sel7 : Bool) : diagASelWord sel7 = 0 ↔ sel7 = false := by
  cases sel7 <;> decide

theorem diagASelWord_beq_one (sel7 : Bool) : (diagASelWord sel7 == 1) = sel7 := by
  cases sel7 <;> decide

/-- An alpha error fits its register. -/
theorem errorWord_toNat {n : Nat} (h : n ≤ 1040400) : (BitVec.ofNat 32 n).toNat = n :=
  (BitVec.toNat_ofNat ..).trans (Nat.mod_eq_of_lt (by omega))

theorem exec_encAlphaInterp (s : State) : ∃ t, exec .encAlphaInterp s = .next t ∧
    t = { s with
      blkOut := t.blkOut, diag := t.diag
      status := { busy := false, done := true, errcode := s.status.errcode } } ∧
    t.blkOut = joinHalves (alphaBlock (chooseAlpha (alphaList s.latch))) zeroHalf ∧
    t.diag = withAlphaDiag (chooseAlpha (alphaList s.latch)) Diag.zero :=
  ⟨_, completeEncode_eq _ _ s, rfl, rfl, rfl⟩

theorem alphaRange5_alphaList (l : Latch) : alphaRange5 (alphaList l) =
    fixRange 5 ⟨((validAlphas l).filter fun a => a != 0).foldl min 255,
      ((validAlphas l).filter fun a => a != 255).foldl max 0⟩ := by
  rw [alphaRange5, foldl_range5Step, reduceOption_alphaList]

theorem alphaRange7_alphaList (l : Latch) : alphaRange7 (alphaList l) =
    fixRange 7 ⟨(validAlphas l).foldl min 255, (validAlphas l).foldl max 0⟩ := by
  rw [alphaRange7, foldl_range7Step, reduceOption_alphaList]

/-- Settles O52: the choice of topology stores the end values and, for every slot, the place of its first
nearest code. -/
theorem alphaRoundTripErrorIsTheReportedOne : Obligations.AlphaRoundTripErrorIsTheReportedOne := by
  intro s
  obtain ⟨t, ht, hframe, hblk, hdiag⟩ := exec_encAlphaInterp s
  refine ⟨t, ht, hframe, ?_⟩
  have hbytes : Bytes (alphaList s.latch) := alphaList_le s.latch
  have hc := isChoice_chooseAlpha hbytes
  have h5 := chooseAlpha_err5_le s.latch
  have h7 := chooseAlpha_err7_le s.latch
  generalize chooseAlpha (alphaList s.latch) = c at hc h5 h7 hblk hdiag
  obtain ⟨h0, h1, horder⟩ := hc.ends_order hbytes
  obtain ⟨hbyte0, hbyte1⟩ := hc.byteNat_alphaBlock hbytes
  intro valid r5 r7 lo alpha0 alpha1
  have hvalid : valid = (alphaList s.latch).reduceOption := (reduceOption_alphaList s.latch).symm
  have hr5 : r5 = c.range5 := (alphaRange5_alphaList s.latch).symm.trans hc.range5.symm
  have hr7 : r7 = c.range7 := (alphaRange7_alphaList s.latch).symm.trans hc.range7.symm
  have hlo : lo = alphaBlock c := (congrArg lowHalf hblk).trans (lowHalf_joinHalves _ _)
  have halpha0 : alpha0 = c.a0 := (congrArg (byteNat · 0) hlo).trans hbyte0
  have halpha1 : alpha1 = c.a1 := (congrArg (byteNat · 1) hlo).trans hbyte1
  rw [hvalid, hr5, hr7, hlo, halpha0, halpha1, hdiag, hblk]
  simp only [withAlphaDiag, errorWord_toNat h5, errorWord_toNat h7, diagASelWord_eq_one_iff,
    diagASelWord_eq_zero_iff, diagASelWord_toNat, diagASelWord_beq_one]
  exact ⟨hc.total_error, joinHalves_zeroHalf_high _, rfl, rfl, rfl, rfl,
    hc.aRange_toNat hbytes, hc.err5, hc.err7, (Bool.eq_false_or_eq_true _).symm, hc.sel7, horder,
    hc.ends7, hc.ends5, fun i hi => hc.codeAt_of_invalid hi, fun i k hi hk => hc.nearest hi hk⟩

end Sys2Proof.InterpolatedAlpha
end

section
/-! SUPPORT. The complete step as a rule of the whole state (60_exceptions.md R903): what it writes, by the
class of the command, and which registers of the window it leaves. -/

namespace Sys2Proof.Completion

open Sys2Proof Sys2Proof.Machine Sys2Proof.Statements Sys2Proof.Results Sys2Proof.Window

/-! ## The state after a complete step -/

/-- The state `t` that the complete step of `i` leaves behind `s`. -/
structure Completed (i : Instr) (s t : State) : Prop where
  status : t.status = ⟨false, true, s.status.errcode⟩
  cmd : t.cmd = s.cmd
  latch : t.latch = s.latch
  params : t.params = s.params
  inputs : t.inputs = s.inputs
  valid : t.valid = s.valid
  pixIn : t.pixIn = s.pixIn
  blkIn : t.blkIn = s.blkIn
  va : t.va = s.va
  vb : t.vb = s.vb
  vc : t.vc = s.vc
  readData : t.readData = s.readData
  freeReads : t.freeReads = s.freeReads
  freeTies : isEncode i = false → t.freeTies = s.freeTies
  blkOut : isEncode i = false → t.blkOut = s.blkOut
  pixOut : isDecode i = false → t.pixOut = s.pixOut
  vr : isPrimitive i = false → t.vr = s.vr
  diag_nop : i = .nop → t.diag = s.diag
  diag_clear : isDecode i = true ∨ isPrimitive i = true → t.diag = Diag.zero

theorem not_nop_of_class {i : Instr}
    (h : isEncode i = true ∨ isDecode i = true ∨ isPrimitive i = true) : i ≠ .nop := by
  rintro rfl
  simp [isEncode, isDecode, isPrimitive] at h

/-- Each class of commands writes one output register. -/
theorem exec_completed (i : Instr) (s : State) : ∃ t, exec i s = .next t ∧ Completed i s t := by
  obtain ⟨rfl, he, -⟩ | ⟨hi, v, he, -⟩ | ⟨hi, p, he, -⟩ | ⟨hi, b, d, n, he, -⟩ :=
    exec_classes (s1 := s) (s2 := s) ⟨rfl, rfl, rfl⟩ i
  · exact ⟨_, he, by constructor <;> simp [isDecode, isPrimitive]⟩
  · have hnop := not_nop_of_class (.inr (.inr hi))
    exact ⟨_, he, by constructor <;> simp [hi, hnop]⟩
  · have hnop := not_nop_of_class (.inr (.inl hi))
    exact ⟨_, he, by constructor <;> simp [hi, hnop]⟩
  · have hnop := not_nop_of_class (.inl hi)
    obtain ⟨hdec, hprim⟩ := classes_of_isEncode hi
    exact ⟨_, he, by constructor <;> simp [hi, hdec, hprim, hnop]⟩

/-- Settles O14, by the class of the command. -/
theorem completionWritesOnlyTheNamedOutputs : Obligations.CompletionWritesOnlyTheNamedOutputs := by
  intro i s
  obtain ⟨t, ht, h⟩ := exec_completed i s
  exact ⟨t, ht, h.status, h.cmd, h.latch, h.params, h.inputs, h.valid, h.pixIn, h.blkIn, h.va, h.vb,
    h.vc, h.readData, h.freeReads, fun hi => ⟨h.blkOut hi, h.freeTies hi⟩, h.pixOut, h.vr, h.diag_nop,
    h.diag_clear⟩

/-! ## The registers of the window -/

/-- The registers that the complete step of a command may write (30_encoding.md R305, 60_exceptions.md
R903). -/
def writesReg (i : Instr) : Reg → Bool
  | .status => true
  | .diagFit | .diagCfErr | .diagCfBest | .diagScErr => i != .nop
  | .diagAErr5 | .diagAErr7 | .diagASel | .diagARange => i != .nop
  | .pixOut _ => isDecode i
  | .blkOut _ => isEncode i
  | .vr _ => isPrimitive i
  | _ => false

theorem Completed.readReg_eq {i : Instr} {s t : State} (h : Completed i s t) {r : Reg}
    (hr : writesReg i r = false) : readReg t r = readReg s r := by
  cases r with
  | status => cases hr
  | diagFit | diagCfErr | diagCfBest | diagScErr | diagAErr5 | diagAErr7 | diagASel | diagARange =>
    simp only [readReg, h.diag_nop (by simpa [writesReg] using hr)]
  | pixOut j => simp only [readReg, h.pixOut hr]
  | blkOut m => simp only [readReg, h.blkOut hr]
  | vr l => simp only [readReg, h.vr hr]
  | cmd => exact h.cmd
  | valid => simp only [readReg, h.valid]
  | pixIn j => simp only [readReg, h.pixIn]
  | blkIn m => simp only [readReg, h.blkIn]
  | va l => simp only [readReg, h.va]
  | vb l => simp only [readReg, h.vb]
  | vc l => simp only [readReg, h.vc]
  | lut n v o => simp only [readReg, h.params]
  | id | reserved => rfl

/-- The registers written, by offset (10_state.md R101). -/
theorem writesReg_regAt_eq_false {i : Instr} {off : Nat} (hstatus : ¬ (0x004 ≤ off ∧ off < 0x008))
    (hdiag : i = .nop ∨ ¬ (0x020 ≤ off ∧ off < 0x040))
    (hpix : isDecode i = false ∨ ¬ (0x0C0 ≤ off ∧ off < 0x100))
    (hblk : isEncode i = false ∨ ¬ (0x100 ≤ off ∧ off < 0x110))
    (hvr : isPrimitive i = false ∨ ¬ (0x110 ≤ off ∧ off < 0x120)) :
    writesReg i (regAt off) = false := by
  have hrow := windowRow_regAt off
  generalize regAt off = r at hrow ⊢
  cases hrow with
  | control k hk =>
    have htable : writesReg i (regAt (4 * k.val)) =
        (decide (k.val = 1) || decide (8 ≤ k.val) && i != .nop) := by
      fin_cases k <;> rfl
    have hone : k.val ≠ 1 := by omega
    have hlow : i = .nop ∨ ¬ 8 ≤ k.val := hdiag.imp_right (by omega)
    simpa [htable, hone, or_comm, imp_iff_not_or] using hlow
  | pixOut j hj => exact hpix.resolve_right (by omega)
  | blkOut m hm => exact hblk.resolve_right (by omega)
  | vr l hl => exact hvr.resolve_right (by omega)
  | _ => rfl

/-- Settles O15: a byte of the window belongs to the register at its word's offset. -/
theorem completionLeavesTheRestOfTheWindow : Obligations.CompletionLeavesTheRestOfTheWindow := by
  intro i s
  obtain ⟨t, ht, h⟩ := exec_completed i s
  refine ⟨t, ht, fun off _ hstatus hdiag hpix hblk hvr => ?_⟩
  have hword : writesReg i (regAt (off / 4 * 4)) = false :=
    writesReg_regAt_eq_false (by omega) (hdiag.imp_right (by omega)) (hpix.imp_right (by omega))
      (hblk.imp_right (by omega)) (hvr.imp_right (by omega))
  rw [windowByte, windowByte, h.readReg_eq hword]

/-! ## Writes before the completion (70_reset_and_hazards.md R953) -/

theorem sameLatch_writeReg (v : Word) (s : State) (r : Reg) : sameLatch (writeReg v s r) s :=
  ⟨writeReg_latch v s r, writeReg_params v s r, writeReg_freeTies v s r⟩

/-- Settles O17: a write to an input leaves the latch, so the command writes one result, and it leaves
the outputs that the command does not write. -/
theorem inputWritesWhileBusyMissTheRunningCommand :
    Obligations.InputWritesWhileBusyMissTheRunningCommand := by
  intro s off v i hacc hoff
  obtain ⟨-, halign, hlt⟩ := (access_iff off 4).1 hacc
  have hcmd : regAt off ≠ .cmd := by
    rw [Ne, regAt_eq_cmd_iff]
    omega
  have hwrite := hostWrite_register v (s := s) halign hlt hcmd
  obtain ⟨-, h1, h2⟩ | ⟨-, w, h1, h2⟩ | ⟨-, p, h1, h2⟩ | ⟨-, b, d, n, h1, h2⟩ :=
    exec_classes (sameLatch_writeReg v s (regAt off)) i <;>
    exact ⟨_, _, _, hwrite, h1, h2, by simp⟩

end Sys2Proof.Completion
end

section
/-! SUPPORT. The steps that issue, run and abandon a command (60_exceptions.md R901 to R903,
70_reset_and_hazards.md R950, R958), and the reset state (R951). -/

namespace Sys2Proof.Issue

open Sys2Proof Sys2Proof.Machine Sys2Proof.Statements Sys2Proof.Results Sys2Proof.Window
  Sys2Proof.Busy Sys2Proof.Invariant Sys2Proof.Progress Sys2Proof.Encoding Sys2Proof.Completion
  Sys2Proof.Tables

/-! ## Steps by the event they take -/

theorem step_of_nil {s : State} (h : s.inputs = []) : step s = engineStep s := by
  rw [step, h]

theorem step_of_complete {s : State} {rest : List Event} (h : s.inputs = .complete :: rest) :
    step s = engineStep (setInputs rest s) := by
  rw [step, h]

theorem step_of_write {s : State} {off size : Nat} {v : Word} {rest : List Event}
    (h : s.inputs = .write off size v :: rest) : step s = hostWrite off size v (setInputs rest s) := by
  rw [step, h]

theorem step_of_reset {s : State} {rest : List Event} (h : s.inputs = .reset :: rest) :
    step s = .next (platformReset (setInputs rest s)) := by
  rw [step, h]

theorem hostWrite_cmd (w : Word) (s : State) : hostWrite 0x000 4 w s = .next (issue w s) := rfl

theorem engineStep_of_busy {s : State} {i : Instr} (hb : s.status.busy = true)
    (hi : decodeWord s.latch.cmd = .ok i) : engineStep s = exec i s := by
  rw [engineStep, if_pos hb, hi]

theorem engineStep_of_idle {s : State} (hb : s.status.busy = false) : engineStep s = .next s := by
  simp [engineStep, hb]

/-! ## NOP (48_encoder_commands.md R804) -/

/-- Settles O18: NOP's word decodes, and its complete step sets STATUS alone. -/
theorem nopChangesOnlyStatus : Obligations.NopChangesOnlyStatus :=
  ⟨decodeWord_encode .nop, fun _ => rfl⟩

/-! ## The latched command -/

/-- Settles O6: the engine's step is the complete step of the latched word, and acceptance latches the
word given. -/
theorem oneStepRunsTheLatchedCommand : Obligations.OneStepRunsTheLatchedCommand := by
  refine ⟨fun s i hb hi => ⟨fun hnil => ?_, fun rest hrest => ?_⟩, fun s w i hi => ?_⟩
  · rw [step_of_nil hnil, engineStep_of_busy hb hi]
  · rw [step_of_complete hrest]
    exact engineStep_of_busy hb hi
  · have hword : BitVec.ofNat 32 (w.toNat % 2 ^ 32) = w := by
      rw [Nat.mod_eq_of_lt w.isLt, BitVec.ofNat_toNat, BitVec.setWidth_eq]
    rw [State.withFetchWord, hword, step_of_complete (setInputs_inputs _ _)]
    exact engineStep_of_busy rfl hi

/-- Settles O7: the latch of a consistent machine holds a command while it is busy. -/
theorem anUndisturbedCommandCompletes : Obligations.AnUndisturbedCommandCompletes := by
  intro s hs hnil
  rw [step_of_nil hnil]
  refine ⟨fun hb => ?_, engineStep_of_idle⟩
  obtain ⟨i, hi⟩ := latch_decodes hs hb
  obtain ⟨t, ht, hdone⟩ := exec_completed i s
  exact ⟨t, (engineStep_of_busy hb hi).trans ht, hdone.status⟩

/-! ## The issue rule (R901) -/

theorem issue_of_busy (w : Word) {s : State} (hb : s.status.busy = true) :
    issue w s = raiseCommandError errBusy s := if_pos hb

theorem issue_of_error {w : Word} {s : State} {err : DecodeError} (hb : s.status.busy = false)
    (hw : decodeWord w = .error err) : issue w s = raiseCommandError (errcodeOf err) s := by
  simp [issue, hb, hw]

theorem issue_of_ok {w : Word} {s : State} {i : Instr} (hb : s.status.busy = false)
    (hw : decodeWord w = .ok i) : issue w s = accept w s := by
  simp [issue, hb, hw]

/-- R902: the busy refusal leaves DONE. -/
theorem raiseCommandError_errBusy (s : State) : raiseCommandError errBusy s =
    { s with status := { s.status with errcode := 3 } } := by
  simp [raiseCommandError, setStatus, errBusy]

/-- R901: the other refusals set DONE. -/
theorem raiseCommandError_errcodeOf (err : DecodeError) (s : State) :
    raiseCommandError (errcodeOf err) s =
      { s with status := { s.status with errcode := errcodeOf err, done := true } } := by
  cases err <;> simp [raiseCommandError, setStatus, errcodeOf, errBusy, errIllegalOpcode, errReservedField]

/-- The mask test of R901 is the decoder's. -/
theorem issue_rule (w : Word) (s : State) : issue w s =
    if s.status.busy = true then { s with status := { s.status with errcode := 3 } }
    else if w &&& 0xFF ∉ listedOpcodes then
      { s with status := { s.status with errcode := 1, done := true } }
    else if w &&& opcodeMask (w &&& 0xFF) ≠ w &&& 0xFF then
      { s with status := { s.status with errcode := 2, done := true } }
    else accept w s := by
  by_cases hb : s.status.busy = true
  · rw [if_pos hb, issue_of_busy w hb, raiseCommandError_errBusy]
  rw [if_neg hb]
  rw [Bool.not_eq_true] at hb
  by_cases hlisted : w &&& 0xFF ∈ listedOpcodes
  · rw [if_neg (not_not.2 hlisted)]
    obtain ⟨i, hi⟩ := decodeWord_of_listed hlisted
    by_cases hmask : w &&& opcodeMask (w &&& 0xFF) = w &&& 0xFF
    · rw [if_pos hmask] at hi
      rw [if_neg (not_not.2 hmask), issue_of_ok hb hi]
    · rw [if_neg hmask] at hi
      rw [if_pos hmask, issue_of_error hb hi, raiseCommandError_errcodeOf]
      rfl
  · rw [if_pos hlisted, issue_of_error hb (decodeWord_of_not_listed hlisted),
      raiseCommandError_errcodeOf]
    rfl

/-- Settles O11: the pending write issues its word. -/
theorem commandWritesFollowTheIssueRule : Obligations.CommandWritesFollowTheIssueRule := by
  intro s w rest hrest
  rw [step_of_write hrest, hostWrite_cmd, issue_rule]
  rfl

/-! ## The write that is lost (R902) -/

/-- A state with another ERRCODE. -/
def withErrcode (c : BitVec 4) (s : State) : State :=
  setStatus { s.status with errcode := c } s

/-- No command reads or writes ERRCODE. -/
theorem exec_withErrcode {i : Instr} {s u : State} (c : BitVec 4) (h : exec i s = .next u) :
    exec i (withErrcode c s) = .next (withErrcode c u) := by
  obtain ⟨-, h1, h2⟩ | ⟨-, v, h1, h2⟩ | ⟨-, p, h1, h2⟩ | ⟨-, b, d, n, h1, h2⟩ :=
    exec_classes (s1 := withErrcode c s) (s2 := s) ⟨rfl, rfl, rfl⟩ i
  all_goals
    cases h2.symm.trans h
    exact h1

theorem engineStep_withErrcode {s u : State} (c : BitVec 4) (h : engineStep s = .next u) :
    engineStep (withErrcode c s) = .next (withErrcode c u) := by
  obtain ⟨hb, rfl⟩ | ⟨hb, i, hi, he⟩ := engineStep_cases h
  · exact engineStep_of_idle hb
  · exact (engineStep_of_busy (s := withErrcode c s) hb hi).trans (exec_withErrcode c he)

theorem engineStep_errcode {s t : State} (h : engineStep s = .next t) :
    t.status.errcode = s.status.errcode := by
  obtain ⟨-, rfl⟩ | ⟨-, i, -, he⟩ := engineStep_cases h
  · rfl
  · obtain ⟨-, -, hstatus⟩ := exec_frame he
    rw [hstatus]

/-- A write moves ERRCODE only at CMD's offset. -/
theorem hostWrite_errcode {off size : Nat} {v : Word} {s t : State}
    (h : hostWrite off size v s = .next t) (hne : ¬ (off = 0x000 ∧ size = 4)) :
    t.status.errcode = s.status.errcode := by
  obtain ⟨hacc, ⟨hr, -⟩ | ⟨-, rfl⟩⟩ := hostWrite_cases h
  · obtain ⟨hsize, halign, -⟩ := (access_iff off size).1 hacc
    have hoff := (regAt_eq_cmd_iff off).1 hr
    exact absurd ⟨by omega, hsize⟩ hne
  · rw [writeReg_status]

/-- Settles O12: the refusal replaces ERRCODE, which no completion reads or writes. -/
theorem writeWhileBusyIsRefusedAndLost : Obligations.WriteWhileBusyIsRefusedAndLost := by
  refine ⟨fun s u w rest hb hinputs hu => ?_, fun s t h hcmd hreset => ?_⟩
  · refine ⟨_, ?_, rfl, ?_⟩
    · rw [step_of_write hinputs, hostWrite_cmd, issue_rule, setInputs_status, if_pos hb]
      rfl
    · rw [step_of_complete rfl]
      exact engineStep_withErrcode 3 hu
  · obtain ⟨-, he⟩ | ⟨rest, -, he⟩ | ⟨off, size, rest, -, hr⟩ | ⟨off, size, v, rest, hi, hw⟩ |
      ⟨rest, hi, -⟩ := step_cases h
    · exact engineStep_errcode he
    · exact (engineStep_errcode he).trans (by rw [setInputs_status])
    · rw [hostRead_status hr, setInputs_status]
    · rw [hostWrite_errcode hw, setInputs_status]
      rintro ⟨rfl, rfl⟩
      exact hcmd v (by rw [hi]; rfl)
    · exact absurd (by rw [hi]; rfl) hreset

/-! ## Reset (70_reset_and_hazards.md R950, R951) -/

/-- Settles O5: the pending reset puts the reset state in the place of every register. -/
theorem platformResetRestoresEveryRegister : Obligations.PlatformResetRestoresEveryRegister := by
  intro s rest h
  refine ⟨_, step_of_reset h, rfl, rfl, rfl, rfl, rfl, rfl, fun i => ?_, rfl, rfl, rfl, rfl⟩
  simp [State.reset]

theorem lane_zeroV4 (l : Fin 4) : lane zeroV4 l = 0 := by
  fin_cases l <;> rfl

theorem bufferWord_zero (m : Fin 4) : bufferWord (Vector.replicate 16 0) m = 0 := by
  simp only [bufferWord, Vector.getElem_replicate]
  rfl

/-- The registers of the window below the ROM. -/
theorem readReg_reset {off : Nat} (halign : off % 4 = 0) (hlt : off < 0x1000) :
    readReg State.reset (regAt off) =
      if off = 0x008 then 0x0000FFFF else if off = 0x00C then 0x44580100 else 0x00000000 := by
  have hrow := windowRow_regAt off
  generalize regAt off = r at hrow ⊢
  cases hrow with
  | control k hk =>
    have htable : ∀ k : Fin 16, readReg State.reset (regAt (4 * k.val)) =
        if k.val = 2 then 0x0000FFFF else if k.val = 3 then 0x44580100 else 0x00000000 := by
      decide
    have hvalid : off = 0x008 ↔ k.val = 2 := by omega
    have hid : off = 0x00C ↔ k.val = 3 := by omega
    simp only [htable, hvalid, hid]
  | lut t v o h => omega
  | pixIn j hj | pixOut j hj =>
    rw [if_neg (by omega), if_neg (by omega)]
    exact Vector.getElem_replicate ..
  | blkIn m hm | blkOut m hm =>
    rw [if_neg (by omega), if_neg (by omega)]
    exact bufferWord_zero m
  | va l hl | vb l hl | vc l hl | vr l hl =>
    rw [if_neg (by omega), if_neg (by omega)]
    exact lane_zeroV4 l
  | reserved h =>
    rw [if_neg (by omega), if_neg (by omega)]
    rfl

/-- Settles O1: each offset is a row of the register map, and the tables of the reset state are the
listed ones. -/
theorem resetLeavesTheStatedValues : Obligations.ResetLeavesTheStatedValues := by
  refine ⟨fun off => readReg_reset, fun v o => ?_, rfl⟩
  simp [readReg, reset_lut5, reset_lut6, lutEntry]

/-- The codes of a table lie below the limit (41_single_color_tables.md R450). -/
theorem wellFormed_lut {b m n : Nat} {t : Lut}
    (h : ∀ {o v : Nat}, o < 2 → ∀ hv : v < 256,
      StoredTriple b o (if o = 0 then m else n) v (orientation t[v] o)) :
    WellFormed.lut (2 ^ b) t = true := by
  rw [WellFormed.lut, List.all_eq_true]
  intro e he
  obtain ⟨v, hv, rfl⟩ := List.getElem_of_mem he
  rw [Vector.length_toList] at hv
  have h0 := h (o := 0) (by decide) hv
  have h1 := h (o := 1) (by decide) hv
  simp only [Vector.getElem_toList, Bool.and_eq_true, decide_eq_true_eq]
  exact ⟨⟨h0.start_lt, h0.stop_lt⟩, h1.start_lt, h1.stop_lt⟩

/-- Settles O2: the default tables hold codes of their grids. -/
theorem resetIsConsistent : Obligations.ResetIsConsistent := by
  have h5 : WellFormed.lut 32 lut5 = true :=
    wellFormed_lut (b := 5) fun ho hv => storedTriple_lut5 ho hv
  have h6 : WellFormed.lut 64 lut6 = true :=
    wellFormed_lut (b := 6) fun ho hv => storedTriple_lut6 ho hv
  have hparams : WellFormed.params State.reset.params = true := by
    rw [WellFormed.params, reset_lut5, reset_lut6, Bool.and_eq_true, Bool.and_eq_true]
    exact ⟨⟨by decide, h5⟩, h6⟩
  exact (consistent_iff _).2 ⟨by decide, by decide, diagOk_zero, hparams⟩

end Sys2Proof.Issue
end

section
/-! SUPPORT. The colour decoder channel by channel (47_block_decoder.md R751 to R753) and the pixel words
of the decode commands (R760 to R763, 46_alpha_codec.md R722, R723). -/

namespace Sys2Proof.Decoder

open Sys2Proof Sys2Proof.Machine Sys2Proof.Statements Sys2Proof.Serializing

/-! ## Unpacked endpoints (R751) -/

/-- The shifted bits and the replicated ones do not overlap. -/
theorem expand5_eq_rep5 {q : Nat} (h : q < 32) : expand5 q = rep5 q := by
  rw [expand5, ← Nat.shiftLeft_add_eq_or_of_lt (by omega), rep5]
  omega

theorem expand6_eq_rep6 {q : Nat} (h : q < 64) : expand6 q = rep6 q := by
  rw [expand6, ← Nat.shiftLeft_add_eq_or_of_lt (by omega), rep6]
  omega

theorem unpack565_eq (c : BitVec 16) : unpack565 c =
    ⟨(unpackedChannels c.toNat).1, (unpackedChannels c.toNat).2.1, (unpackedChannels c.toNat).2.2,
      255⟩ := by
  have hr : (c.extractLsb' 11 5).toNat = c.toNat / 2048 := by
    rw [BitVec.extractLsb'_toNat, Nat.shiftRight_eq_div_pow]
    omega
  have hg : (c.extractLsb' 5 6).toNat = c.toNat / 32 % 64 := by
    rw [BitVec.extractLsb'_toNat, Nat.shiftRight_eq_div_pow]
  have hb : (c.extractLsb' 0 5).toNat = c.toNat % 32 := by
    rw [BitVec.extractLsb'_toNat, Nat.shiftRight_eq_div_pow]
    omega
  rw [unpack565, hr, hg, hb, expand5_eq_rep5 (by omega), expand6_eq_rep6 (by omega),
    expand5_eq_rep5 (by omega)]
  rfl

theorem unpackedChannels_le {c : Nat} (h : c < 2 ^ 16) :
    (unpackedChannels c).1 ≤ 255 ∧ (unpackedChannels c).2.1 ≤ 255 ∧ (unpackedChannels c).2.2 ≤ 255 := by
  simp only [unpackedChannels, rep5, rep6]
  omega

/-! ## The palette (R752) -/

/-- A colour channel: blending acts on it alone, and it is 0 in transparent black. -/
structure Channel (l : Rgba → Nat) : Prop where
  blend : ∀ f p q, l (blend f p q) = f (l p) (l q)
  black : l ⟨0, 0, 0, 0⟩ = 0

theorem channel_r : Channel Rgba.r := ⟨fun _ _ _ => rfl, rfl⟩

theorem channel_g : Channel Rgba.g := ⟨fun _ _ _ => rfl, rfl⟩

theorem channel_b : Channel Rgba.b := ⟨fun _ _ _ => rfl, rfl⟩

theorem index_cases (i : BitVec 2) : i = 0 ∨ i = 1 ∨ i = 2 ∨ i = 3 := by
  revert i
  decide

theorem Channel.paletteColour {l : Rgba → Nat} (hl : Channel l) (mode : PaletteMode)
    (c0 c1 : BitVec 16) (i : BitVec 2) : l (paletteColour mode c0 c1 i) =
      paletteChannel (fourColours mode c0 c1) i.toNat (l (unpack565 c0)) (l (unpack565 c1)) := by
  obtain rfl | rfl | rfl | rfl := index_cases i
  · rfl
  · rfl
  · cases hfour : fourColours mode c0 c1 <;>
      simp [Machine.paletteColour, paletteChannel, hfour, hl.blend]
  · cases hfour : fourColours mode c0 c1 <;>
      simp [Machine.paletteColour, paletteChannel, hfour, hl.blend, hl.black]

theorem paletteColour_alpha (mode : PaletteMode) (c0 c1 : BitVec 16) (i : BitVec 2) :
    (paletteColour mode c0 c1 i).a =
      if fourColours mode c0 c1 = false ∧ i.toNat = 3 then 0 else 255 := by
  obtain rfl | rfl | rfl | rfl := index_cases i
  · simp [paletteColour, unpack565]
  · simp [paletteColour, unpack565]
  · cases hfour : fourColours mode c0 c1 <;> simp [paletteColour, hfour, blend]
  · cases hfour : fourColours mode c0 c1 <;> simp [paletteColour, hfour, blend]

theorem paletteChannel_le {x y : Nat} (hx : x ≤ 255) (hy : y ≤ 255) (four : Bool) (idx : Nat) :
    paletteChannel four idx x y ≤ 255 := by
  unfold paletteChannel
  split_ifs <;> omega

/-! ## The decoded colour (R753) -/

theorem fourColours_eq (mode : PaletteMode) (b : Block8) : fourColours mode (color0 b) (color1 b) =
    (mode == .four ||
      decide (byteNat b 2 + 256 * byteNat b 3 < byteNat b 0 + 256 * byteNat b 1)) := by
  rw [fourColours, ← color0_toNat, ← color1_toNat]
  rfl

/-- Settles O56: the palette acts on each channel alone, and the stored index is a digit of its row. -/
theorem colourBlocksDecodeByTheirPalette : Obligations.ColourBlocksDecodeByTheirPalette := by
  intro mode b i
  dsimp only
  rw [← fourColours_eq, ← color0_toNat, ← color1_toNat, ← storedIndex_toNat, decodeColour,
    channel_r.paletteColour, channel_g.paletteColour, channel_b.paletteColour, paletteColour_alpha,
    unpack565_eq, unpack565_eq]
  obtain ⟨hr0, hg0, hb0⟩ := unpackedChannels_le (color0 b).isLt
  obtain ⟨hr1, hg1, hb1⟩ := unpackedChannels_le (color1 b).isLt
  exact ⟨rfl, rfl, rfl, rfl, paletteChannel_le hr0 hr1 _ _, paletteChannel_le hg0 hg1 _ _,
    paletteChannel_le hb0 hb1 _ _⟩

theorem decodeColour_le (mode : PaletteMode) (b : Block8) (i : Slot) :
    let c := decodeColour mode b i
    c.r ≤ 255 ∧ c.g ≤ 255 ∧ c.b ≤ 255 ∧ c.a ≤ 255 := by
  obtain ⟨-, -, -, ha, hr, hg, hb⟩ := colourBlocksDecodeByTheirPalette mode b i
  refine ⟨hr, hg, hb, ?_⟩
  rw [ha]
  split <;> omega

/-! ## Pixel words (10_state.md R117) -/

theorem pixelWord_eq (r g b a : Byte) :
    pixelWord r g b a = pixelNumber r.toNat g.toNat b.toNat a.toNat := by
  apply BitVec.eq_of_toNat_eq
  rw [pixelWord, wordOfBytes_toNat, pixelNumber, BitVec.toNat_ofNat]
  omega

theorem toNat_ofNat_byte {n : Nat} (h : n ≤ 255) : (BitVec.ofNat 8 n).toNat = n :=
  (BitVec.toNat_ofNat ..).trans (Nat.mod_eq_of_lt (by omega))

theorem rgbaWord_decodeColour (mode : PaletteMode) (b : Block8) (i : Slot) :
    let c := decodeColour mode b i
    rgbaWord c = pixelNumber c.r c.g c.b c.a := by
  obtain ⟨hr, hg, hb, ha⟩ := decodeColour_le mode b i
  simp only [rgbaWord, pixelWord_eq, toNat_ofNat_byte hr, toNat_ofNat_byte hg, toNat_ofNat_byte hb,
    toNat_ofNat_byte ha]

theorem rgbWithAlpha_decodeColour (mode : PaletteMode) (b : Block8) (i : Slot) (a : Byte) :
    let c := decodeColour mode b i
    rgbWithAlpha c a = pixelNumber c.r c.g c.b a.toNat := by
  obtain ⟨hr, hg, hb, -⟩ := decodeColour_le mode b i
  simp only [rgbWithAlpha, pixelWord_eq, toNat_ofNat_byte hr, toNat_ofNat_byte hg, toNat_ofNat_byte hb]

/-! ## The decode commands -/

/-- Pixels that agree slot by slot give one next state. -/
theorem completeDecode_eq_afterDecode {f g : Slot → Word} (h : ∀ i, f i = g i) (s : State) :
    completeDecode (Vector.ofFn f) s = .next (afterDecode s g) := by
  rw [funext h]
  rfl

/-- Settles O57: every channel is a byte, so the pixel word is the number of its channels. -/
theorem decodeCommandsWritePixOut : Obligations.DecodeCommandsWritePixOut := fun s =>
  ⟨completeDecode_eq_afterDecode (fun i => rgbaWord_decodeColour .dxt1 _ i) s,
    completeDecode_eq_afterDecode (fun i => rgbWithAlpha_decodeColour .four _ i _) s,
    completeDecode_eq_afterDecode (fun i => rgbWithAlpha_decodeColour .four _ i _) s,
    completeDecode_eq_afterDecode (fun i => rgbWithAlpha_decodeColour .four _ i 0xFF) s,
    completeDecode_eq_afterDecode (fun _ => pixelWord_eq 0 0 0 _) s,
    completeDecode_eq_afterDecode (fun _ => pixelWord_eq 0 0 0 _) s⟩

end Sys2Proof.Decoder
end

section
/-! SUPPORT. The encode commands (48_encoder_commands.md R800 to R805): the colour half as the fit that
the point count and CF select, its diagnostic registers as numbers, and the indices of cluster-fit
(44_cluster_fit.md R610). -/

namespace Sys2Proof.Encoder

open Sys2Proof Sys2Proof.Machine Sys2Proof.Statements Sys2Proof.Invariant Sys2Proof.SolidBlocks
  Sys2Proof.Cluster Sys2Proof.Serializing Sys2Proof.InterpolatedAlpha

/-! ## Diagnostic words as numbers (10_state.md R106, R108) -/

theorem diagFitWord_eq_ofNat {f n p o : Nat} (hf : f ≤ 3) (hn : n ≤ 16) (hp : p ≤ 8) (ho : o ≤ 1) :
    diagFitWord f n p o = BitVec.ofNat 32 (f + 2 ^ 4 * n + 2 ^ 12 * p + 2 ^ 16 * o) := by
  apply BitVec.eq_of_toNat_eq
  rw [diagFitWord_toNat, BitVec.toNat_ofNat]
  omega

theorem diagCfBestWord_eq_ofNat {i j k iter : Nat} (hi : i ≤ 16) (hj : j ≤ 16) (hk : k ≤ 16)
    (hiter : iter < 8) : diagCfBestWord i j k iter =
      BitVec.ofNat 32 (i + 2 ^ 8 * j + 2 ^ 16 * k + 2 ^ 24 * iter) := by
  apply BitVec.eq_of_toNat_eq
  rw [diagCfBestWord]
  repeat rw [BitVec.toNat_append, ← Nat.shiftLeft_add_eq_or_of_lt (BitVec.isLt _)]
  simp only [BitVec.ofNat_eq_ofNat, BitVec.toNat_ofNat, Nat.shiftLeft_eq]
  omega

theorem diagARangeWord_eq_ofNat {as : List (Option Nat)} {c : AlphaChoice} (hc : IsChoice as c)
    (h : Bytes as) : diagARangeWord c.range5.min c.range5.max c.range7.min c.range7.max =
      BitVec.ofNat 32 (c.range5.min + c.range5.max * 2 ^ 8 + c.range7.min * 2 ^ 16 +
        c.range7.max * 2 ^ 24) := by
  apply BitVec.eq_of_toNat_eq
  obtain ⟨⟨h5max, h5⟩, h7max, h7⟩ := hc.range_bounds h
  rw [hc.aRange_toNat h, BitVec.toNat_ofNat]
  omega

/-- What bounds the fields of a search's record. -/
theorem clusterSearch_bounds (p : Params) (draw : Nat) (ps : List V4) (axis : V3) :
    let r := clusterSearch p draw ps axis
    r.best.iter < 8 ∧ r.best.i ≤ ps.length ∧ r.best.j ≤ ps.length ∧ r.best.k ≤ ps.length := by
  obtain ⟨n, hn, hsearch⟩ := clusterSearch_eq p draw ps axis
  obtain ⟨last, rfl⟩ := Nat.exists_eq_add_one.2 hn.first_lt
  have hgood := goodRecord_record p draw ps axis (last + 1)
  have hiter := record_iter_le p draw ps axis last
  rw [hsearch]
  exact ⟨hiter.trans_lt hn.le_limit, hgood.i_le.trans (hgood.j_le.trans hgood.k_le),
    hgood.j_le.trans hgood.k_le, hgood.k_le⟩

/-! ## The colour half (R800, R805) -/

/-- R800: which fitter the point count and CF select. -/
theorem fitterFor_cases (cf : Bool) (n : Nat) :
    (n = 1 ∧ fitterFor cf n = .singleColour) ∨
    (n ≠ 1 ∧ (cf = true ∧ 2 ≤ n) ∧ fitterFor cf n = .cluster) ∨
    (n ≠ 1 ∧ ¬ (cf = true ∧ 2 ≤ n) ∧ fitterFor cf n = .range) := by
  unfold fitterFor
  by_cases hone : n = 1
  · exact .inl ⟨hone, if_pos hone⟩
  · by_cases hcluster : cf = true ∧ 2 ≤ n
    · exact .inr (.inl ⟨hone, hcluster, by simp [hone, hcluster]⟩)
    · exact .inr (.inr ⟨hone, hcluster, by simpa [hone] using hcluster⟩)

/-- The colour half that R800 and R805 give for a colour set, in the words of the statements. -/
def pipelineHalf (p : Params) (draw : Nat) (cs : ColourSet) (cf : Bool) : ColourHalf :=
  ⟨serializeFit (pipelineFit p draw cs cf), pipelineDiag p draw cs cf, pipelineDraws p cs cf⟩

theorem singleColourHalf_eq (p : Params) (draw : Nat) {cs : ColourSet} (cf : Bool)
    (h : cs.points.length = 1) : singleColourHalf p cs = pipelineHalf p draw cs cf := by
  have ho : chosenOrientation p (cs.points.headD vzero) ≤ 1 := by
    have := chosenOrientation_cases p (cs.points.headD vzero)
    omega
  rw [pipelineHalf, pipelineFit, if_pos h, pipelineDiag, if_pos h, pipelineDraws, if_neg (by omega),
    singleColourHalf, h, diagFitWord_eq_ofNat (by decide) (by decide) (by decide) ho]
  rfl

theorem drawsOf_eq (tie : CfTie) : drawsOf tie = if tie = .any then 1 else 0 := by
  cases tie <;> rfl

theorem clusterHalf_eq (p : Params) (draw : Nat) {cs : ColourSet} {cf : Bool}
    (hone : cs.points.length ≠ 1) (hcluster : cf = true ∧ 2 ≤ cs.points.length)
    (hle : cs.points.length ≤ 16) : clusterHalf p draw cs = pipelineHalf p draw cs cf := by
  have hpasses := clusterSearch_passes_le p draw cs.points (principalAxis p cs.points)
  obtain ⟨hiter, hi, hj, hk⟩ := clusterSearch_bounds p draw cs.points (principalAxis p cs.points)
  have hdraws : pipelineDraws p cs cf = drawsOf p.cfTie := by
    simp only [pipelineDraws, drawsOf_eq, and_iff_left hcluster]
  rw [pipelineHalf, pipelineFit, if_neg hone, if_pos hcluster, pipelineDiag, if_neg hone,
    if_pos hcluster, hdraws, clusterHalf]
  dsimp only
  rw [diagFitWord_eq_ofNat (by decide) hle hpasses (by decide),
    diagCfBestWord_eq_ofNat (hi.trans hle) (hj.trans hle) (hk.trans hle) hiter]
  rfl

theorem rangeHalf_eq (p : Params) (draw : Nat) {cs : ColourSet} {cf : Bool}
    (hone : cs.points.length ≠ 1) (hcluster : ¬ (cf = true ∧ 2 ≤ cs.points.length))
    (hle : cs.points.length ≤ 16) : rangeHalf p cs = pipelineHalf p draw cs cf := by
  rw [pipelineHalf, pipelineFit, if_neg hone, if_neg hcluster, pipelineDiag, if_neg hone,
    if_neg hcluster, pipelineDraws, if_neg fun h => hcluster h.2, rangeHalf,
    diagFitWord_eq_ofNat (by decide) hle (by decide) (by decide)]
  rfl

theorem colourHalf_eq (p : Params) (draw : Nat) (l : Latch) (mode : BuilderMode) (cf wa : Bool) :
    colourHalf p draw l mode cf wa = pipelineHalf p draw (colourSet l mode wa) cf := by
  have hle := colourSet_points_length_le l mode wa
  rw [colourHalf]
  obtain ⟨hone, hfitter⟩ | ⟨hone, hcluster, hfitter⟩ | ⟨hone, hcluster, hfitter⟩ :=
    fitterFor_cases cf (colourSet l mode wa).points.length
  · rw [hfitter]
    exact singleColourHalf_eq p draw cf hone
  · rw [hfitter]
    exact clusterHalf_eq p draw hone hcluster hle
  · rw [hfitter]
    exact rangeHalf_eq p draw hone hcluster hle

theorem colourOf_eq (s : State) (mode : BuilderMode) (cf wa : Bool) : colourOf s mode cf wa =
    pipelineHalf s.params s.freeTies (colourSet s.latch mode wa) cf :=
  colourHalf_eq ..

/-! ## The colour encodes (R801 to R803) -/

theorem completeEncode_noteDraws (h : ColourHalf) (b : Block16) (d : Diag) (s : State) :
    completeEncode b d (noteDraws h s) = .next (afterEncode s b d h.draws) := rfl

theorem execEncDxt1_eq (s : State) (cf wa a1 : Bool) :
    exec (.encDxt1 cf wa a1) s =
      let h := colourOf s (if a1 then .dxt1a else .dxt1) cf wa
      .next (afterEncode s (joinHalves h.bytes zeroHalf) h.diag h.draws) :=
  completeEncode_noteDraws ..

theorem execEncDxt3_eq (s : State) (cf wa : Bool) :
    exec (.encDxt3 cf wa) s =
      let h := colourOf s .dxt5 cf wa
      .next (afterEncode s (joinHalves (encodeAlphaExplicit (alphaList s.latch)) h.bytes) h.diag
        h.draws) :=
  completeEncode_noteDraws ..

theorem execEncDxt5_eq (s : State) (cf wa : Bool) :
    exec (.encDxt5 cf wa) s =
      let h := colourOf s .dxt5 cf wa
      let c := chooseAlpha (alphaList s.latch)
      .next (afterEncode s (joinHalves (alphaBlock c) h.bytes) (withAlphaDiag c h.diag) h.draws) :=
  completeEncode_noteDraws ..

/-- The alpha registers as numbers (46_alpha_codec.md R705). -/
theorem withAlphaDiag_eq {as : List (Option Nat)} {c : AlphaChoice} (hc : IsChoice as c)
    (h : Bytes as) (d : Diag) : withAlphaDiag c d =
      { d with
        aErr5 := BitVec.ofNat 32 c.err5, aErr7 := BitVec.ofNat 32 c.err7
        aSel := if c.err7 < c.err5 then 1 else 0
        aRange := BitVec.ofNat 32 (c.range5.min + c.range5.max * 2 ^ 8 + c.range7.min * 2 ^ 16 +
          c.range7.max * 2 ^ 24) } := by
  have hsel : diagASelWord c.sel7 = if c.err7 < c.err5 then 1 else 0 := by
    simp only [← hc.sel7]
    cases c.sel7 <;> rfl
  rw [withAlphaDiag, hsel, diagARangeWord_eq_ofNat hc h]

/-! ## The indices of cluster-fit (R610) -/

/-- A point's index is that of its place in the best ordering. -/
theorem pointIndices_getElem? {b : Best} {order : List Nat} {n m t : Nat}
    (h : order.Perm (List.range n)) (ht : order[t]? = some m) :
    (pointIndices b order n)[m]? = some (runIndex b t) := by
  have hlt : m < n := List.mem_range.1 (h.mem_iff.1 (List.mem_of_getElem? ht))
  have hnodup : order.Nodup := h.nodup_iff.2 List.nodup_range
  obtain ⟨htlt, rfl⟩ := List.getElem?_eq_some_iff.1 ht
  rw [pointIndices, List.getElem?_map, List.getElem?_range hlt, Option.map_some,
    hnodup.idxOf_getElem t htlt]

/-- Settles O58: the colour half is that of the selected fitter, and a permutation has each point at one
place. -/
theorem encodeCommandsFollowThePipeline : Obligations.EncodeCommandsFollowThePipeline := by
  refine ⟨fun s cf wa a1 => ⟨?_, ?_, ?_⟩, fun cs r order horder hperm => ⟨rfl, rfl, fun i =>
    ⟨fun hi => ?_, fun m t hm ht => ?_⟩⟩⟩
  · rw [execEncDxt1_eq, colourOf_eq]
    rfl
  · rw [execEncDxt3_eq, colourOf_eq]
    rfl
  · have hbytes : Bytes (alphaList s.latch) := alphaList_le s.latch
    rw [execEncDxt5_eq, colourOf_eq]
    dsimp only
    rw [withAlphaDiag_eq (isChoice_chooseAlpha hbytes) hbytes]
    rfl
  · rw [clusterFit, remapIndices_getElem?, hi]
    rfl
  · have hindex := pointIndices_getElem? (b := r.best) hperm ht
    rw [clusterFit, remapIndices_getElem?, hm, List.getD_eq_getElem?_getD (l := r.orders), horder,
      Option.map_some, Option.elim_some, List.getD_eq_getElem?_getD]
    exact congrArg (fun x => some (x.getD 0)) hindex

/-! ## No valid slot (R801) -/

theorem points_of_no_valid_slot {l : Latch} (h : l.valid = 0) (mode : BuilderMode) (wa : Bool) :
    (colourSet l mode wa).points = [] := by
  rw [Builder.points_eq_nil_iff, Builder.colourSet_map_eq]
  intro m hm
  obtain ⟨i, -, rfl⟩ := List.mem_map.1 hm
  simp [Builder.entry, makesPoint, slotValid, h]

theorem quant3_zeroV3 (fused : Bool) : quant3 fused zeroV3 = zeroV3 := by
  cases fused <;> decide

/-- Black on both ends drops every index. -/
theorem serialize_zeroV3 (idx : List (BitVec 2)) : serialize zeroV3 zeroV3 idx = zeroHalf := by
  have hcolour : colorTo565 zeroV3 = 0 := by decide
  have hrow (r : Nat) : rowByte (idx.map (orderedIndex 0 0)) r = 0 := by
    have hzero (k : Nat) : (idx.map (orderedIndex 0 0)).getD k 0 = 0 := by
      rw [List.getD_eq_getElem?_getD, List.getElem?_map]
      cases idx[k]? with
      | none => rfl
      | some i => exact orderedIndex_self 0 i
    simp only [rowByte, hzero]
    rfl
  rw [serialize, hcolour, serializePacked]
  simp only [hrow]
  rfl

theorem rangeHalf_of_no_point (p : Params) {cs : ColourSet} (h : cs.points = []) :
    rangeHalf p cs = ⟨zeroHalf, ⟨0x00000002, 0, 0, 0, 0, 0, 0, 0⟩, 0⟩ := by
  have hfit : serializeFit (rangeFit p cs (principalAxis p cs.points)) = zeroHalf := by
    rw [serializeFit, rangeFit, h]
    simp only [extremes, quant3_zeroV3, serialize_zeroV3]
  rw [rangeHalf, hfit, h]
  rfl

/-- R800: with no point CF has no say. -/
theorem colourHalf_of_no_point (p : Params) (draw : Nat) {l : Latch} {mode : BuilderMode} (cf : Bool)
    {wa : Bool} (h : (colourSet l mode wa).points = []) :
    colourHalf p draw l mode cf wa = ⟨zeroHalf, ⟨0x00000002, 0, 0, 0, 0, 0, 0, 0⟩, 0⟩ := by
  have hfitter : fitterFor cf (colourSet l mode wa).points.length = .range := by
    rw [h]
    cases cf <;> rfl
  rw [colourHalf, hfitter]
  exact rangeHalf_of_no_point p h

/-- Settles O59: with no point range-fit starts and ends in black, where every index is dropped. -/
theorem noValidSlotGivesTheZeroBlock : Obligations.NoValidSlotGivesTheZeroBlock := by
  intro s cf wa a1 h
  have hhalf := colourHalf_of_no_point s.params s.freeTies cf
    (points_of_no_valid_slot h (if a1 then .dxt1a else .dxt1) wa)
  refine ⟨_, execEncDxt1_eq s cf wa a1, fun k => ?_, ?_⟩
  · rw [colourOf, hhalf]
    have hzero : ∀ k : Fin 16, (joinHalves zeroHalf zeroHalf)[k] = 0 := by decide
    exact hzero k
  · rw [colourOf, hhalf]
    rfl

/-! ## The halves of the formats (R500, R802, R803) -/

/-- Without A1 a point is made of every valid slot, as in mode DXT5 (R501). -/
theorem makesPoint_dxt5 (l : Latch) : makesPoint l .dxt5 = makesPoint l .dxt1 := rfl

theorem scanSlots_dxt5 (l : Latch) (wa : Bool) (ss : List Slot) (pts : List V4) :
    scanSlots l .dxt5 wa ss pts = scanSlots l .dxt1 wa ss pts := by
  induction ss generalizing pts with
  | nil => rfl
  | cons i ss ih => simp only [scanSlots, makesPoint_dxt5, ih]

theorem colourSet_dxt5 (l : Latch) (wa : Bool) : colourSet l .dxt5 wa = colourSet l .dxt1 wa := by
  rw [colourSet, colourSet, scanSlots_dxt5]

theorem colourOf_dxt5 (s : State) (cf wa : Bool) : colourOf s .dxt5 cf wa = colourOf s .dxt1 cf wa := by
  rw [colourOf_eq, colourOf_eq, colourSet_dxt5]

/-- Settles O60: the colour halves are of one colour set, the alpha halves of one alpha list. -/
theorem colourHalvesAgreeAcrossFormats : Obligations.ColourHalvesAgreeAcrossFormats := by
  intro s cf wa
  refine ⟨_, _, _, _, _, execEncDxt1_eq s cf wa false, execEncDxt3_eq s cf wa, execEncDxt5_eq s cf wa,
    completeEncode_eq _ _ s, completeEncode_eq _ _ s, ?_⟩
  simp [afterEncode, colourOf_dxt5, withAlphaDiag]

end Sys2Proof.Encoder
end
